-- ==== Sys2Proof/Word.lean ====
section
/-! DEFINITION. The word types of the block (00_scope.md R7, R8, R11) and the transaction its bus carries
(30_encoding.md R80, R81). -/

namespace Sys2Proof

/-- A byte, 0x00 to 0xFF (R11). -/
abbrev Byte := BitVec 8

/-- A port address, PORT_ADDR_WIDTH = 16 bits (R8, R11). -/
abbrev Port := BitVec 16

/-- A memory address, 16 bits (R7, R11). -/
abbrev Addr := BitVec 16

/-- The 18-bit selector word of a transaction (R81): bit 17 the space, bit 16 the direction, bits 15:8 the upper
and bits 7:0 the lower address byte. -/
abbrev Selector := BitVec 18

/-- One bus transaction as it is issued: a selector word and a data byte (R81, R91). A read ignores `data`: its byte
goes the other way. -/
structure Transaction where
  selector : Selector
  data     : Byte
deriving DecidableEq, Repr

end Sys2Proof
end

