-- ==== Sys2Proof/Machine/Flags.lean ====
section
/-! DEFINITION. The block has no flags or condition codes (10_state.md R21), so no instruction writes one. What stands
here is the block's one condition bit and its one mask computation: bit 6 of sound register 0xF, which picks the
controller byte (42_port_writes.md R134), and the bytewise merge of a memory write (44_memory_access.md R194). -/

namespace Sys2Proof.Machine

/-- Bit 6 of sound register 0xF: set selects CTRL2, clear selects CTRL1 (R134). -/
def picksSecondController (ctrlReg : Byte) : Bool := ctrlReg.getLsbD 6

/-- What a masked write leaves: `(old & ~m) | (v & m)` (R194). -/
def maskMerge (old v m : Byte) : Byte := (old &&& ~~~m) ||| (v &&& m)

end Sys2Proof.Machine
end

