-- ==== Sys2Proof/Syntax.lean ====
section
/-! DEFINITION. The block's instructions: one constructor per row of spec/opcode_table.json (30_encoding.md R82).
The block fetches no instruction stream; its instructions are the bus transactions it is issued (10_state.md R21). -/

namespace Sys2Proof

/-- A decoded transaction. `h` is the ignored upper byte of the port (R83), `port` the whole 16-bit port of a default
row, `addr` a memory address, `v` the data byte of a write. -/
inductive Instr where
  | inVdpData     (h : Byte)                 -- IN_VDP_DATA, R111
  | inVdpStatus   (h : Byte)                 -- IN_VDP_STATUS, R112
  | inSndData     (h : Byte)                 -- IN_SND_DATA, R113
  | inMapctl      (h : Byte)                 -- IN_MAPCTL, R114
  | inPortA9      (h : Byte)                 -- IN_PORT_A9, R115
  | inIdle        (port : Port)              -- IN_IDLE, R116
  | outVdpData    (h : Byte) (v : Byte)      -- OUT_VDP_DATA, R131
  | outVdpControl (h : Byte) (v : Byte)      -- OUT_VDP_CONTROL, R132
  | outSndSelect  (h : Byte) (v : Byte)      -- OUT_SND_SELECT, R133
  | outSndWrite   (h : Byte) (v : Byte)      -- OUT_SND_WRITE, R134
  | outMapctl     (h : Byte) (v : Byte)      -- OUT_MAPCTL, R136
  | outIgnored    (port : Port) (v : Byte)   -- OUT_IGNORED, R137
  | memRd         (addr : Addr)              -- MEM_RD, R190
  | memWr         (addr : Addr) (v : Byte)   -- MEM_WR, R193
deriving DecidableEq, Repr

/-- The row's mnemonic in spec/opcode_table.json. -/
def Instr.mnemonic : Instr → String
  | .inVdpData _       => "IN_VDP_DATA"
  | .inVdpStatus _     => "IN_VDP_STATUS"
  | .inSndData _       => "IN_SND_DATA"
  | .inMapctl _        => "IN_MAPCTL"
  | .inPortA9 _        => "IN_PORT_A9"
  | .inIdle _          => "IN_IDLE"
  | .outVdpData _ _    => "OUT_VDP_DATA"
  | .outVdpControl _ _ => "OUT_VDP_CONTROL"
  | .outSndSelect _ _  => "OUT_SND_SELECT"
  | .outSndWrite _ _   => "OUT_SND_WRITE"
  | .outMapctl _ _     => "OUT_MAPCTL"
  | .outIgnored _ _    => "OUT_IGNORED"
  | .memRd _           => "MEM_RD"
  | .memWr _ _         => "MEM_WR"

end Sys2Proof
end

