-- ==== Sys2Proof/WellFormed.lean ====
section
/-! DEFINITION. Which instruction terms stand for a transaction. A default row (IN_IDLE, OUT_IGNORED) is taken only
when no other row of its space and direction matches (30_encoding.md R82), so its port may not be a decoded one. -/

namespace Sys2Proof

/-- The decoded ports with a read row of their own (30_encoding.md R85). -/
def decodedReadPorts : List Byte := [0x98#8, 0x99#8, 0xA2#8, 0xA8#8, 0xA9#8]

/-- The decoded ports with a write row of their own (30_encoding.md R86). -/
def decodedWritePorts : List Byte := [0x98#8, 0x99#8, 0xA0#8, 0xA1#8, 0xA8#8]

/-- The term stands for some selector word and data byte. -/
def Instr.wellFormed : Instr → Bool
  | .inVdpData _       => true
  | .inVdpStatus _     => true
  | .inSndData _       => true
  | .inMapctl _        => true
  | .inPortA9 _        => true
  | .inIdle port       => !decodedReadPorts.contains (port.extractLsb' 0 8)
  | .outVdpData _ _    => true
  | .outVdpControl _ _ => true
  | .outSndSelect _ _  => true
  | .outSndWrite _ _   => true
  | .outMapctl _ _     => true
  | .outIgnored port _ => !decodedWritePorts.contains (port.extractLsb' 0 8)
  | .memRd _           => true
  | .memWr _ _         => true

end Sys2Proof
end

