-- ==== Sys2Proof/Decode.lean ====
section
/-! DEFINITION. Decoding and encoding of transactions (30_encoding.md R81 to R91): the total decoder of an issued
transaction, the opcode table as data (R82), the encoder, and the byte form in which a word of the table is given. -/

namespace Sys2Proof

/-- `dport`, the decoded port: bits 7:0 of the port (R83). -/
def decodedPort (port : Port) : Byte := port.extractLsb' 0 8

/-- Bits 15:8 of the port, which no decode reads (R83). -/
def upperPort (port : Port) : Byte := port.extractLsb' 8 8

/-- The port with bits 15:8 `h` and bits 7:0 `p`. -/
def portOf (h p : Byte) : Port := h ++ p

/-- The selector word with bits 17:16 `d` (space, direction) and bits 15:0 `low` (R81). -/
def selectorOf (d : BitVec 2) (low : BitVec 16) : Selector := d ++ low

/-- Read decode, total over every port (R85). -/
def decodeRead (port : Port) : Instr :=
  if decodedPort port = 0x98#8 then .inVdpData (upperPort port)
  else if decodedPort port = 0x99#8 then .inVdpStatus (upperPort port)
  else if decodedPort port = 0xA2#8 then .inSndData (upperPort port)
  else if decodedPort port = 0xA8#8 then .inMapctl (upperPort port)
  else if decodedPort port = 0xA9#8 then .inPortA9 (upperPort port)
  else .inIdle port

/-- Write decode, total over every port (R86). -/
def decodeWrite (port : Port) (v : Byte) : Instr :=
  if decodedPort port = 0x98#8 then .outVdpData (upperPort port) v
  else if decodedPort port = 0x99#8 then .outVdpControl (upperPort port) v
  else if decodedPort port = 0xA0#8 then .outSndSelect (upperPort port) v
  else if decodedPort port = 0xA1#8 then .outSndWrite (upperPort port) v
  else if decodedPort port = 0xA8#8 then .outMapctl (upperPort port) v
  else .outIgnored port v

/-- The instruction a transaction stands for. Bit 17 is the space (0 = I/O, 1 = memory), bit 16 the direction
(0 = read, 1 = write), bits 15:0 the port or the address (R81). Every selector word decodes (R90). -/
def decode (t : Transaction) : Instr :=
  match t.selector.getLsbD 17, t.selector.getLsbD 16 with
  | false, false => decodeRead (t.selector.extractLsb' 0 16)
  | false, true  => decodeWrite (t.selector.extractLsb' 0 16) t.data
  | true,  false => .memRd (t.selector.extractLsb' 0 16)
  | true,  true  => .memWr (t.selector.extractLsb' 0 16) t.data

/-- One row of the opcode table (R82). `matchBits` and `mask` are the table's; a default row is taken only when no
other row of the same space and direction matches. -/
structure OpcodeRow where
  mnemonic  : String
  matchBits : Selector
  mask      : Selector
  isDefault : Bool
deriving DecidableEq, Repr

/-- The opcode table (R82), in its order. -/
def opcodeRows : List OpcodeRow :=
  [ ⟨"IN_VDP_DATA",     0x00098, 0x300FF, false⟩,
    ⟨"IN_VDP_STATUS",   0x00099, 0x300FF, false⟩,
    ⟨"IN_SND_DATA",     0x000A2, 0x300FF, false⟩,
    ⟨"IN_MAPCTL",       0x000A8, 0x300FF, false⟩,
    ⟨"IN_PORT_A9",      0x000A9, 0x300FF, false⟩,
    ⟨"IN_IDLE",         0x00000, 0x30000, true⟩,
    ⟨"OUT_VDP_DATA",    0x10098, 0x300FF, false⟩,
    ⟨"OUT_VDP_CONTROL", 0x10099, 0x300FF, false⟩,
    ⟨"OUT_SND_SELECT",  0x100A0, 0x300FF, false⟩,
    ⟨"OUT_SND_WRITE",   0x100A1, 0x300FF, false⟩,
    ⟨"OUT_MAPCTL",      0x100A8, 0x300FF, false⟩,
    ⟨"OUT_IGNORED",     0x10000, 0x30000, true⟩,
    ⟨"MEM_RD",          0x20000, 0x30000, false⟩,
    ⟨"MEM_WR",          0x30000, 0x30000, false⟩ ]

/-- The row's pattern matches the selector (R82). -/
def OpcodeRow.fits (row : OpcodeRow) (sel : Selector) : Bool := sel &&& row.mask == row.matchBits

/-- The row is the one the table takes for the selector: it matches, and if it is a default row no other row
matches (R82). -/
def OpcodeRow.taken (row : OpcodeRow) (sel : Selector) : Bool :=
  row.fits sel && (!row.isDefault || opcodeRows.all (fun other => other.isDefault || !other.fits sel))

/-- The transaction of an instruction, each selector written from its pattern in R82, bit 17 first. A read carries no
data byte out to the block: 0x00 stands there (log 11). -/
def encode : Instr → Transaction
  | .inVdpData h       => ⟨selectorOf 0b00#2 (portOf h 0b10011000#8), 0#8⟩
  | .inVdpStatus h     => ⟨selectorOf 0b00#2 (portOf h 0b10011001#8), 0#8⟩
  | .inSndData h       => ⟨selectorOf 0b00#2 (portOf h 0b10100010#8), 0#8⟩
  | .inMapctl h        => ⟨selectorOf 0b00#2 (portOf h 0b10101000#8), 0#8⟩
  | .inPortA9 h        => ⟨selectorOf 0b00#2 (portOf h 0b10101001#8), 0#8⟩
  | .inIdle port       => ⟨selectorOf 0b00#2 port, 0#8⟩
  | .outVdpData h v    => ⟨selectorOf 0b01#2 (portOf h 0b10011000#8), v⟩
  | .outVdpControl h v => ⟨selectorOf 0b01#2 (portOf h 0b10011001#8), v⟩
  | .outSndSelect h v  => ⟨selectorOf 0b01#2 (portOf h 0b10100000#8), v⟩
  | .outSndWrite h v   => ⟨selectorOf 0b01#2 (portOf h 0b10100001#8), v⟩
  | .outMapctl h v     => ⟨selectorOf 0b01#2 (portOf h 0b10101000#8), v⟩
  | .outIgnored port v => ⟨selectorOf 0b01#2 port, v⟩
  | .memRd addr        => ⟨selectorOf 0b10#2 addr, 0#8⟩
  | .memWr addr v      => ⟨selectorOf 0b11#2 addr, v⟩

/-- Why a list of bytes is no transaction. Only the byte form can be refused: every 18-bit selector word decodes. -/
inductive DecodeError where
  /-- Fewer than the four bytes of a transaction. -/
  | truncated
  /-- The third byte has a bit above the selector's bit 17. -/
  | selectorBitsAbove17
deriving DecidableEq, Repr

/-- The transaction at the head of a list of bytes: selector bits 7:0, 15:8 and 17:16, then the data byte
(DESIGN CHOICE, log 11). -/
def transactionOfBytes : List Byte → Except DecodeError (Transaction × List Byte)
  | p :: h :: sd :: v :: rest =>
    if sd.extractLsb' 2 6 = 0#6 then .ok (⟨selectorOf (sd.extractLsb' 0 2) (portOf h p), v⟩, rest)
    else .error .selectorBitsAbove17
  | _ => .error .truncated

/-- The instruction at the head of a list of bytes, with the rest of the list. -/
def decodeBytes (bytes : List Byte) : Except DecodeError (Instr × List Byte) :=
  match transactionOfBytes bytes with
  | .ok (t, rest) => .ok (decode t, rest)
  | .error e => .error e

/-- The four bytes of a transaction, in `transactionOfBytes`' layout. -/
def bytesOfTransaction (t : Transaction) : List Byte :=
  [t.selector.extractLsb' 0 8, t.selector.extractLsb' 8 8, (t.selector.extractLsb' 16 2).setWidth 8, t.data]

/-- The four bytes of an instruction. -/
def encodeBytes (i : Instr) : List Byte := bytesOfTransaction (encode i)

/-- Byte `k` of a word that the opcode table numbers from bit 0, the bits from `nbits` up being 0. -/
def tableWordByte (nbits w k : Nat) : Byte := BitVec.ofNat 8 ((w % 2 ^ nbits) / 2 ^ (8 * k))

/-- The four bytes of such a word. -/
def tableWordBytes (nbits w : Nat) : List Byte :=
  [tableWordByte nbits w 0, tableWordByte nbits w 1, tableWordByte nbits w 2, tableWordByte nbits w 3]

/-- The instruction the decoder reads from a word of the opcode table. -/
def decodeTableWord (nbits w : Nat) : Option Instr :=
  match decodeBytes (tableWordBytes nbits w) with
  | .ok (i, _) => some i
  | .error _ => none

end Sys2Proof
end

