-- ==== Sys2Proof/Config.lean ====
section
/-! DEFINITION. The fixed sizes (00_scope.md R7) and the open parameters of the external collaborators
(00_scope.md R8). The parameters that are functions are opaque constants: a claim holds whatever they are. -/

namespace Sys2Proof

/-- BOOT_ROM_SIZE (R7). -/
abbrev Config.bootRomSize : Nat := 0x4000

/-- BASIC_ROM_SIZE (R7). -/
abbrev Config.basicRomSize : Nat := 0x4000

/-- RAM_SIZE (R7). -/
abbrev Config.ramSize : Nat := 0x10000

/-- CART_ADDRESSED: the bytes addressed in each cartridge slot (R8, D3). -/
abbrev Config.cartAddressed : Nat := 0x10000

/-- The least CART1_SIZE and CART2_SIZE (R8, D3). -/
abbrev Config.cartMinSize : Nat := 0xC000

/-- PAGE_SIZE (R7); also the size of the unmapped placeholder page (D4). -/
abbrev Config.pageSize : Nat := 0x400

/-- The video unit's state, opaque to the block (10_state.md R40): a token that only the four operations below
interpret. -/
structure VdpState where
  token : Nat
deriving DecidableEq, Repr, Inhabited

/-- VDP_READ_DATA (R41): the byte a data read yields and the video unit's next state. DESIGN CHOICE, log 9. -/
opaque Config.vdpReadData : VdpState → Byte × VdpState

/-- VDP_READ_STATUS (R41): the byte a status read yields and the video unit's next state. DESIGN CHOICE, log 9. -/
opaque Config.vdpReadStatus : VdpState → Byte × VdpState

/-- VDP_WRITE_DATA (R42). DESIGN CHOICE, log 9. -/
opaque Config.vdpWriteData : VdpState → Byte → VdpState

/-- VDP_WRITE_CONTROL (R42). DESIGN CHOICE, log 9. -/
opaque Config.vdpWriteControl : VdpState → Byte → VdpState

/-- SND_REG_WRITE (R39): what register `i` (0x0 to 0xD) stores when `v` is written. DESIGN CHOICE, log 10. -/
opaque Config.sndRegWrite : BitVec 4 → Byte → Byte

/-- SND_REG_READ (R39): what a read of register `i` (0x0 to 0xD) yields from its stored byte. DESIGN CHOICE,
log 10. -/
opaque Config.sndRegRead : BitVec 4 → Byte → Byte

end Sys2Proof
end

