-- ==== Sys2Proof/Machine/Operands.lean ====
section
/-! DEFINITION. Every operand form of the block (30_encoding.md R87; 44_memory_access.md R195): the parts of a memory
address, the low nibble that port 0xA0 uses, and the fixed byte of an idle read. No operand is extended or scaled. -/

namespace Sys2Proof.Machine

/-- The page index of a memory address: bits 15:10 (20_memory.md R57). -/
def pageIndex (addr : Addr) : Fin 64 := (addr.extractLsb' 10 6).toFin

/-- The offset in its page: bits 9:0, zero-extended (20_memory.md R57). -/
def pageOffset (addr : Addr) : Nat := (addr.extractLsb' 0 10).toNat

/-- The quadrant of a memory address: bits 15:14 (20_memory.md R58). -/
def quadrantOf (addr : Addr) : Fin 4 := (addr.extractLsb' 14 2).toFin

/-- The register-select operand of port 0xA0: the low 4 bits of the data byte (R87; 42_port_writes.md R133). -/
def selectOperand (v : Byte) : BitVec 4 := v.extractLsb' 0 4

/-- IDLE_VALUE, the byte an undecoded port read returns (41_port_reads.md R117). -/
def idleValue : Byte := 0xFF#8

end Sys2Proof.Machine
end

