-- ==== Sys2Proof/Machine/Mapper.lean ====
section
/-! DEFINITION. The Bank Mapper's table: regions and page-table entries (10_state.md R25 to R27), the region-select
encoding (30_encoding.md R88), the function Build (43_bank_mapper.md R161 to R166), and the packed form of an entry
(30_encoding.md R92, R93). -/

namespace Sys2Proof.Machine

/-- The physical regions (10_state.md R30). -/
inductive Region where
  | boot | basic | cart1 | cart2 | ram | unmapped
deriving DecidableEq, Repr

/-- A page-table entry (10_state.md R26): the region, the byte offset where the entry's 1KB window starts, and the
write-mask. The same triple, with the offset of one byte, is what a translation gives (20_memory.md R57). -/
structure Entry where
  region : Region
  offset : Nat
  wmask  : Byte
deriving DecidableEq, Repr

/-- `PT`, exactly 64 entries (10_state.md R25). -/
abbrev PageTable := Vector Entry 64

/-- INIT_PORTA8 (10_state.md R45). DESIGN CHOICE of the spec (D2), log 5. -/
def initPortA8 : Byte := 0x00#8

/-- The 2-bit field of quadrant `q`: `(c >> (2*q)) & 3` (43_bank_mapper.md R162). -/
def selectField (c : Byte) (q : Fin 4) : BitVec 2 := c.extractLsb' (2 * q.val) 2

/-- The source of quadrant `q` under field `f` (43_bank_mapper.md R163): its region, starting offset and write-mask. -/
def source (q : Fin 4) (f : BitVec 2) : Entry :=
  if f = 0#2 then
    if q = 0 then ⟨.boot, 0, 0x00#8⟩
    else if q = 1 then ⟨.basic, 0, 0x00#8⟩
    else ⟨.unmapped, 0, 0x00#8⟩
  else if f = 1#2 then ⟨.cart1, 0x4000 * q.val, 0x00#8⟩
  else if f = 2#2 then ⟨.cart2, 0x4000 * q.val, 0x00#8⟩
  else ⟨.ram, 0x4000 * q.val, 0xFF#8⟩

/-- Entry `i` of a quadrant whose source is `e`: every entry of an unmapped quadrant points at the start of the one
placeholder page, every other source advances by 1KB an entry (43_bank_mapper.md R161, R165, R166). -/
def windowOf (e : Entry) (i : Nat) : Entry :=
  if e.region = .unmapped then ⟨.unmapped, 0, 0x00#8⟩ else ⟨e.region, e.offset + 0x400 * i, e.wmask⟩

/-- The quadrant that page `p` lies in: quadrant `q` holds entries `16*q` to `16*q + 15` (10_state.md R25). -/
def quadrantOfPage (p : Fin 64) : Fin 4 := ⟨p.val / 16, by omega⟩

/-- Entry `p` of the table for control value `c` (43_bank_mapper.md R161). -/
def buildEntry (c : Byte) (p : Fin 64) : Entry :=
  windowOf (source (quadrantOfPage p) (selectField c (quadrantOfPage p))) (p.val % 16)

/-- `Build(c)`, total over the 256 control values (43_bank_mapper.md R161). -/
def build (c : Byte) : PageTable := Vector.ofFn (buildEntry c)

/-- The region codes of the packed form (30_encoding.md R92). -/
def Region.code : Region → BitVec 3
  | .boot => 0#3 | .basic => 1#3 | .cart1 => 2#3 | .cart2 => 3#3 | .ram => 4#3 | .unmapped => 5#3

/-- The region of a code; the codes 6 and 7 never occur (R92). -/
def Region.ofCode (code : BitVec 3) : Option Region :=
  if code = 0#3 then some .boot
  else if code = 1#3 then some .basic
  else if code = 2#3 then some .cart1
  else if code = 3#3 then some .cart2
  else if code = 4#3 then some .ram
  else if code = 5#3 then some .unmapped
  else none

/-- The packed form of an entry (30_encoding.md R93): the region code at bit 14, `offset[15:10]` at bit 8, `wmask` at
bit 0. -/
def Entry.pack (e : Entry) : BitVec 17 :=
  BitVec.ofNat 17 (e.region.code.toNat * 0x4000 + e.offset / 0x400 * 0x100 + e.wmask.toNat)

/-- The entry of a packed word (30_encoding.md R93). -/
def Entry.unpack (w : BitVec 17) : Option Entry :=
  (Region.ofCode (w.extractLsb' 14 3)).map fun r =>
    ⟨r, 0x400 * (w.extractLsb' 8 6).toNat, w.extractLsb' 0 8⟩

end Sys2Proof.Machine
end

