-- ==== Sys2Proof/Machine/State.lean ====
section
/-! DEFINITION. The state of the block and of its collaborators as the block sees them (10_state.md R20 to R45), the
reasons a step can stop, and the state after reset (R45; 70_reset_and_hazards.md R240). -/

namespace Sys2Proof.Machine

/-- The contents of a physical region: (offset, byte) pairs in one canonical form (`Memory.wf` in Ops.lean). -/
abbrev Memory := List Host.Cell

/-- The fault reasons (60_exceptions.md R212). -/
inductive Fault where
  /-- RegionBounds(r, off): a MEM_RD translated to CART1 or CART2 at an offset the loaded image does not reach
  (R214). The read itself only sets the mark FAULT; `step` answers this fault in a state whose mark is set, because
  no later transaction is taken there (R213). Safe: a claim that reaches it is unprovable, never false (D3). -/
  | regionBounds (region : Region) (offset : Nat)
deriving DecidableEq, Repr

/-- What a launch must have wired (60_exceptions.md R215). -/
inductive Component where
  | videoUnit | soundUnit | pageTable | region (r : Region)
deriving DecidableEq, Repr

/-- Why no meaning is given. -/
inductive Refusal where
  /-- `exec` answers this for an instruction whose meaning is not written yet; no arm does. Safe. -/
  | notModelled (mnemonic : String)
  /-- `Launch.start` answers this for a launch that lacks a component (60_exceptions.md R215); no transaction does.
  Safe: a refused launch proves nothing (D18). -/
  | unwired (component : Component)
deriving DecidableEq, Repr

/-- What reaches the block from outside, one at a time (00_scope.md R6): a transaction of the processor's bus, or a
change of a controller snapshot byte by the host between two transactions. DESIGN CHOICE, log 1 and log 3. -/
inductive BusEvent where
  | transaction (t : Transaction)
  | hostCtrl1 (v : Byte)
  | hostCtrl2 (v : Byte)
deriving DecidableEq, Repr

/-- The state (10_state.md R20, R35, R36, R40), with two fields of the model's own: `bus` and `result`. -/
structure State where
  /-- `PortA8`, the Mapper Control Register (R22). -/
  portA8    : Byte
  /-- `PT`, the page table (R25). -/
  pt        : PageTable
  /-- `BOOT`, the boot ROM (R30). -/
  boot      : Memory
  /-- `BASIC`, the BASIC ROM (R30). -/
  basic     : Memory
  /-- `CART1`, the image in cartridge slot 1 (R30). -/
  cart1     : Memory
  /-- `CART2`, the image in cartridge slot 2 (R30). -/
  cart2     : Memory
  /-- `RAM`, the system RAM (R30, R33). -/
  ram       : Memory
  /-- `UNMAPPED`, the unmapped placeholder page (R30, R34). -/
  unmapped  : Memory
  /-- `CART1_SIZE`: bytes 0 to `cart1Size - 1` of slot 1 are present (R30). -/
  cart1Size : Nat
  /-- `CART2_SIZE`: bytes 0 to `cart2Size - 1` of slot 2 are present (R30). -/
  cart2Size : Nat
  /-- `SND.sel`, the sound unit's register-select value (R36). -/
  sndSel    : BitVec 4
  /-- `SND.reg[0..15]`, the sound unit's registers (R36). -/
  sndReg    : Vector Byte 16
  /-- `VDP`, the video unit's state (R40). -/
  vdp       : VdpState
  /-- `CTRL1`, Controller Snapshot Byte 1 (R35). -/
  ctrl1     : Byte
  /-- `CTRL2`, Controller Snapshot Byte 2 (R35). -/
  ctrl2     : Byte
  /-- `FAULT`, empty or one fault reason (60_exceptions.md R212). -/
  fault     : Option Fault
  /-- What reaches the block next, oldest first. The model's own field: log 1. -/
  bus       : List BusEvent
  /-- The byte the latest transaction returned to the processor, if it returned one (30_encoding.md R80). The model's
  own field: log 2. -/
  result    : Option Byte
deriving DecidableEq, Repr

/-- The named parameters a session starts from (00_scope.md R8): the images, the initial RAM, the cartridge sizes, the
collaborators' reset states and the controller bytes. -/
structure Params where
  bootRom      : Memory
  basicRom     : Memory
  cart1Rom     : Memory
  cart2Rom     : Memory
  unmappedPage : Memory
  initRam      : Memory
  cart1Size    : Nat
  cart2Size    : Nat
  initSndSel   : BitVec 4
  initSndRegs  : Vector Byte 16
  vdpState0    : VdpState
  ctrl1        : Byte
  ctrl2        : Byte
deriving DecidableEq, Repr

/-- The parameters the model's own reset state takes: nothing listed in any region, full cartridge images, zeros in
the collaborators. DESIGN CHOICE, log 6, log 7 and log 8. -/
def Params.blank : Params where
  bootRom      := []
  basicRom     := []
  cart1Rom     := []
  cart2Rom     := []
  unmappedPage := []
  initRam      := []
  cart1Size    := Config.cartAddressed
  cart2Size    := Config.cartAddressed
  initSndSel   := 0
  initSndRegs  := Vector.replicate 16 0
  vdpState0    := ⟨0⟩
  ctrl1        := 0
  ctrl2        := 0

/-- The state after reset under given parameters (10_state.md R45; 70_reset_and_hazards.md R240): the regions hold
their loaded contents, PortA8 is INIT_PORTA8, PT is Build of it, FAULT is empty, the collaborators stand in their own
reset states. -/
def State.resetWith (p : Params) : State where
  portA8    := initPortA8
  pt        := build initPortA8
  boot      := p.bootRom
  basic     := p.basicRom
  cart1     := p.cart1Rom
  cart2     := p.cart2Rom
  ram       := p.initRam
  unmapped  := p.unmappedPage
  cart1Size := p.cart1Size
  cart2Size := p.cart2Size
  sndSel    := p.initSndSel
  sndReg    := p.initSndRegs
  vdp       := p.vdpState0
  ctrl1     := p.ctrl1
  ctrl2     := p.ctrl2
  fault     := none
  bus       := []
  result    := none

/-- The machine right after reset (R45, R240), with the parameters of `Params.blank`. -/
def State.reset : State := State.resetWith Params.blank

end Sys2Proof.Machine
end

