-- ==== Sys2Proof/Machine/Ops.lean ====
section
/-! DEFINITION. The named operations over memory, registers and collaborators that the meanings share: a region's
contents, one update per field of State, RegionRead and RegionWrite (20_memory.md R55, R56), Translate (R57), Remap
(43_bank_mapper.md R160), the sound and video units' interfaces (10_state.md R37, R41, R42), and raising a fault
(60_exceptions.md R213). -/

namespace Sys2Proof.Machine

/-! ### A region's contents -/

/-- What a byte that no cell lists reads as. DESIGN CHOICE, log 7. -/
def Memory.unlisted : Byte := 0xFF#8

/-- The byte at an offset. -/
def Memory.read : Memory → Nat → Byte
  | [], _ => Memory.unlisted
  | c :: m, off => if c.1 = off then c.2 else Memory.read m off

/-- The contents with no cell at an offset. -/
def Memory.erase (m : Memory) (off : Nat) : Memory := m.filter fun c => c.1 != off

/-- The contents with a cell put in at its place in the order. -/
def Memory.insert (off : Nat) (v : Byte) : Memory → Memory
  | [] => [(off, v)]
  | c :: m => if off < c.1 then (off, v) :: c :: m else c :: Memory.insert off v m

/-- The contents after storing a byte at an offset; a byte equal to what an unlisted one reads as is not listed. -/
def Memory.write (m : Memory) (off : Nat) (v : Byte) : Memory :=
  if v = Memory.unlisted then m.erase off else Memory.insert off v (m.erase off)

/-- The canonical form: offsets strictly rising, and no cell equal to what an unlisted byte reads as. -/
abbrev Memory.wf (m : Memory) : Prop :=
  m.Pairwise (fun c d => c.1 < d.1) ∧ ∀ c ∈ m, c.2 ≠ Memory.unlisted

/-- Every listed offset lies inside a region of `size` bytes. -/
abbrev Memory.within (m : Memory) (size : Nat) : Prop := ∀ c ∈ m, c.1 < size

/-! ### One update per field -/

def State.withPortA8 (s : State) (v : Byte) : State := { s with portA8 := v }
def State.withPt (s : State) (t : PageTable) : State := { s with pt := t }
def State.withRam (s : State) (m : Memory) : State := { s with ram := m }
def State.withSndSel (s : State) (r : BitVec 4) : State := { s with sndSel := r }
def State.withSndReg (s : State) (r : BitVec 4) (v : Byte) : State :=
  { s with sndReg := s.sndReg.set r.toNat v r.isLt }
def State.withVdp (s : State) (u : VdpState) : State := { s with vdp := u }
def State.withCtrl1 (s : State) (v : Byte) : State := { s with ctrl1 := v }
def State.withCtrl2 (s : State) (v : Byte) : State := { s with ctrl2 := v }
def State.withFault (s : State) (f : Option Fault) : State := { s with fault := f }
def State.withBus (s : State) (events : List BusEvent) : State := { s with bus := events }
def State.withResult (s : State) (b : Option Byte) : State := { s with result := b }

/-! ### Ending a transaction -/

/-- The transaction returns the byte `b` to the processor (30_encoding.md R80). -/
def reply (b : Byte) (s : State) : State := s.withResult (some b)

/-- `raise Fault(reason)`: the mark is set and the transaction ends with no further effect and no result byte
(60_exceptions.md R213). The block has no trap and no return from one (R217), so nothing else is saved. -/
def raiseFault (f : Fault) (s : State) : State := (s.withFault (some f)).withResult none

/-! ### Physical regions -/

/-- The contents of a region (10_state.md R30). -/
def State.contents (s : State) : Region → Memory
  | .boot => s.boot
  | .basic => s.basic
  | .cart1 => s.cart1
  | .cart2 => s.cart2
  | .ram => s.ram
  | .unmapped => s.unmapped

/-- The byte a region holds at an offset (20_memory.md R53). -/
def State.byteAt (s : State) (r : Region) (off : Nat) : Byte := (s.contents r).read off

/-- The byte is absent: the offset is at or past the size of a cartridge image (20_memory.md R55). The other regions
are whole for every offset a translation forms (43_bank_mapper.md R168; log 12). -/
def State.absent (s : State) (r : Region) (off : Nat) : Bool :=
  match r with
  | .cart1 => decide (s.cart1Size ≤ off)
  | .cart2 => decide (s.cart2Size ≤ off)
  | .boot => false
  | .basic => false
  | .ram => false
  | .unmapped => false

/-- `RegionRead(r, off)` (20_memory.md R55). -/
def regionRead (s : State) (r : Region) (off : Nat) : Except Fault Byte :=
  if s.absent r off then .error (.regionBounds r off) else .ok (s.byteAt r off)

/-- `RegionWrite(r, off, v)`: RAM stores the byte, and no path writes any other region (20_memory.md R56; log 12). -/
def regionWrite (s : State) (r : Region) (off : Nat) (v : Byte) : State :=
  match r with
  | .ram => s.withRam (s.ram.write off v)
  | .boot => s
  | .basic => s
  | .cart1 => s
  | .cart2 => s
  | .unmapped => s

/-! ### Address translation and the remap -/

/-- `Translate(addr)` (20_memory.md R57): the region, the offset of the addressed byte in it, and the write-mask. -/
def translate (s : State) (addr : Addr) : Entry :=
  let e := s.pt[pageIndex addr]
  ⟨e.region, e.offset + pageOffset addr, e.wmask⟩

/-- `Remap()`: all 64 entries rebuilt from PortA8, and nothing else (43_bank_mapper.md R160, R167). -/
def remap (s : State) : State := s.withPt (build s.portA8)

/-! ### The sound unit's interface (10_state.md R36 to R39) -/

/-- The controller/I-O register (R36). -/
def controlRegister : BitVec 4 := 0xF#4

/-- The register that receives the controller snapshot byte (R36). -/
def snapshotRegister : BitVec 4 := 0xE#4

/-- Inspection of one sound register (R37). -/
def State.soundReg (s : State) (r : BitVec 4) : Byte := s.sndReg[r.toNat]'(r.isLt)

/-- Registers 0xE and 0xF store and return all eight bits verbatim (R38). -/
def storesVerbatim (r : BitVec 4) : Bool := r = snapshotRegister || r = controlRegister

/-- `SND.SetSelect(r)` (R37). -/
def soundSetSelect (r : BitVec 4) (s : State) : State := s.withSndSel r

/-- `SND.WriteSelectedRegister(v)` (R37). -/
def soundWriteSelected (v : Byte) (s : State) : State :=
  s.withSndReg s.sndSel (if storesVerbatim s.sndSel then v else Config.sndRegWrite s.sndSel v)

/-- `SND.ReadSelectedRegister()` (R37). -/
def soundReadSelected (s : State) : Byte :=
  if storesVerbatim s.sndSel then s.soundReg s.sndSel else Config.sndRegRead s.sndSel (s.soundReg s.sndSel)

/-- The controller multiplex after a write with register 0xF selected: bit 6 of register 0xF picks the snapshot byte
that overwrites register 0xE (42_port_writes.md R134). -/
def controllerMultiplex (s : State) : State :=
  if s.sndSel = controlRegister then
    s.withSndReg snapshotRegister (if picksSecondController (s.soundReg controlRegister) then s.ctrl2 else s.ctrl1)
  else s

/-! ### The video unit's interface (10_state.md R40 to R42) -/

/-- A read operation of the video unit: its byte is returned and its next state kept (R41). -/
def videoRead (op : VdpState → Byte × VdpState) (s : State) : State :=
  reply (op s.vdp).1 (s.withVdp (op s.vdp).2)

/-- A write operation of the video unit (R42). -/
def videoWrite (op : VdpState → Byte → VdpState) (v : Byte) (s : State) : State := s.withVdp (op s.vdp v)

/-! ### Taking the next bus event -/

/-- A transaction is taken from the queue: it has returned no byte yet (log 1, log 2). -/
def beginTransaction (rest : List BusEvent) (s : State) : State := (s.withBus rest).withResult none

end Sys2Proof.Machine
end

