-- ==== Sys2Proof/Machine/MemoryAccess.lean ====
section
/-! DEFINITION. The memory transactions through the page table (44_memory_access.md R190 to R195). -/

namespace Sys2Proof.Machine

/-- MEM_RD (R190): the byte the translation lands on, or the fault RegionBounds where a short cartridge image has no
byte there (60_exceptions.md R214). The write-mask plays no part. -/
def execMemRd (addr : Addr) (s : State) : Host.Outcome State Fault Refusal :=
  match regionRead s (translate s addr).region (translate s addr).offset with
  | .ok b => .next (reply b s)
  | .error f => .next (raiseFault f s)

/-- MEM_WR (R193, R194): through mask 0x00 the write is discarded, through any other mask the region's byte takes the
bits the mask lets through. It never faults. -/
def execMemWr (addr : Addr) (v : Byte) (s : State) : Host.Outcome State Fault Refusal :=
  let t := translate s addr
  if t.wmask = 0x00#8 then .next s
  else .next (regionWrite s t.region t.offset (maskMerge (s.byteAt t.region t.offset) v t.wmask))

end Sys2Proof.Machine
end

