-- ==== Sys2Proof/Machine/PortReads.lean ====
section
/-! DEFINITION. The I/O read transactions (41_port_reads.md R110 to R117). None faults, and none reads the upper port
byte (30_encoding.md R83). -/

namespace Sys2Proof.Machine

/-- IN_VDP_DATA, read port 0x98 (R111). -/
def execInVdpData (_h : Byte) (s : State) : Host.Outcome State Fault Refusal :=
  .next (videoRead Config.vdpReadData s)

/-- IN_VDP_STATUS, read port 0x99 (R112). -/
def execInVdpStatus (_h : Byte) (s : State) : Host.Outcome State Fault Refusal :=
  .next (videoRead Config.vdpReadStatus s)

/-- IN_SND_DATA, read port 0xA2 (R113). -/
def execInSndData (_h : Byte) (s : State) : Host.Outcome State Fault Refusal :=
  .next (reply (soundReadSelected s) s)

/-- IN_MAPCTL, read port 0xA8 (R114). -/
def execInMapctl (_h : Byte) (s : State) : Host.Outcome State Fault Refusal :=
  .next (reply s.portA8 s)

/-- IN_PORT_A9, read port 0xA9: the idle value (R115; 90_conflicts.md C4). -/
def execInPortA9 (_h : Byte) (s : State) : Host.Outcome State Fault Refusal :=
  .next (reply idleValue s)

/-- IN_IDLE, read of every other port: the idle value (R116, R117). -/
def execInIdle (_port : Port) (s : State) : Host.Outcome State Fault Refusal :=
  .next (reply idleValue s)

end Sys2Proof.Machine
end

