-- ==== Sys2Proof/Machine/PortWrites.lean ====
section
/-! DEFINITION. The I/O write transactions (42_port_writes.md R130 to R137). None faults or touches a memory region, and
none reads the upper port byte (30_encoding.md R83). -/

namespace Sys2Proof.Machine

/-- OUT_VDP_DATA, write port 0x98 (R131). -/
def execOutVdpData (_h v : Byte) (s : State) : Host.Outcome State Fault Refusal :=
  .next (videoWrite Config.vdpWriteData v s)

/-- OUT_VDP_CONTROL, write port 0x99 (R132). -/
def execOutVdpControl (_h v : Byte) (s : State) : Host.Outcome State Fault Refusal :=
  .next (videoWrite Config.vdpWriteControl v s)

/-- OUT_SND_SELECT, write port 0xA0 (R133). -/
def execOutSndSelect (_h v : Byte) (s : State) : Host.Outcome State Fault Refusal :=
  .next (soundSetSelect (selectOperand v) s)

/-- OUT_SND_WRITE, write port 0xA1: the forwarded write first, then the controller multiplex (R134, R135). -/
def execOutSndWrite (_h v : Byte) (s : State) : Host.Outcome State Fault Refusal :=
  .next (controllerMultiplex (soundWriteSelected v s))

/-- OUT_MAPCTL, write port 0xA8: PortA8 stores all eight bits, then the rebuild runs (R136). -/
def execOutMapctl (_h v : Byte) (s : State) : Host.Outcome State Fault Refusal :=
  .next (remap (s.withPortA8 v))

/-- OUT_IGNORED, write of every other port: no effect (R137). -/
def execOutIgnored (_port : Port) (_v : Byte) (s : State) : Host.Outcome State Fault Refusal :=
  .next s

end Sys2Proof.Machine
end

