-- ==== Sys2Proof/Machine/Dispatch.lean ====
section
/-! DEFINITION. One arm per instruction. -/

namespace Sys2Proof.Machine

def exec (i : Instr) (s : State) : Host.Outcome State Fault Refusal :=
  match i with
  | .inVdpData h => Sys2Proof.Machine.execInVdpData h s
  | .inVdpStatus h => Sys2Proof.Machine.execInVdpStatus h s
  | .inSndData h => Sys2Proof.Machine.execInSndData h s
  | .inMapctl h => Sys2Proof.Machine.execInMapctl h s
  | .inPortA9 h => Sys2Proof.Machine.execInPortA9 h s
  | .inIdle port => Sys2Proof.Machine.execInIdle port s
  | .outVdpData h v => Sys2Proof.Machine.execOutVdpData h v s
  | .outVdpControl h v => Sys2Proof.Machine.execOutVdpControl h v s
  | .outSndSelect h v => Sys2Proof.Machine.execOutSndSelect h v s
  | .outSndWrite h v => Sys2Proof.Machine.execOutSndWrite h v s
  | .outMapctl h v => Sys2Proof.Machine.execOutMapctl h v s
  | .outIgnored port v => Sys2Proof.Machine.execOutIgnored port v s
  | .memRd addr => Sys2Proof.Machine.execMemRd addr s
  | .memWr addr v => Sys2Proof.Machine.execMemWr addr v s

end Sys2Proof.Machine
end

