-- ==== Sys2Proof/Machine/Step.lean ====
section
/-! DEFINITION. One step: the next bus event is taken whole (00_scope.md R3, R6; 70_reset_and_hazards.md R250). -/

namespace Sys2Proof.Machine

/-- One step. In a state whose mark FAULT is set no later transaction is taken, so the step stops with the reason
(60_exceptions.md R213). With no event pending nothing changes (DESIGN CHOICE, log 1). A host event changes one
controller byte and nothing else (10_state.md R35). A transaction is decoded and run. -/
def step (s : State) : Host.Outcome State Fault Refusal :=
  match s.fault with
  | some f => .fault f
  | none =>
    match s.bus with
    | [] => .next s
    | .hostCtrl1 v :: rest => .next ((s.withBus rest).withCtrl1 v)
    | .hostCtrl2 v :: rest => .next ((s.withBus rest).withCtrl2 v)
    | .transaction t :: rest => exec (decode t) (beginTransaction rest s)

/-- `s` with one transaction issued ahead of every pending event: the transaction of a word of the opcode table, so
that the next step runs it (log 1). A word that is no transaction is not issued. -/
def State.withFetchWord (s : State) (nbits w : Nat) : State :=
  match transactionOfBytes (tableWordBytes nbits w) with
  | .ok (t, _) => s.withBus (.transaction t :: s.bus)
  | .error _ => s

end Sys2Proof.Machine
end

