-- ==== Sys2Proof/Machine/Launch.lean ====
section
/-! DEFINITION. The launch of a session (10_state.md R43; 60_exceptions.md R215; 70_reset_and_hazards.md R243): what the
integration wires and loads, and the state a complete launch starts in. -/

namespace Sys2Proof.Machine

/-- What an integration hands over; `none` or `false` is a reference left unwired (R215). The video unit's and the
sound unit's functions are Config's parameters, so wiring a unit here supplies its state (log 13). -/
structure Launch where
  video     : Option VdpState
  sound     : Option (BitVec 4 × Vector Byte 16)
  pageTable : Bool
  boot      : Option Memory
  basic     : Option Memory
  cart1     : Option (Nat × Memory)
  cart2     : Option (Nat × Memory)
  ram       : Option Memory
  unmapped  : Option Memory
  ctrl1     : Byte
  ctrl2     : Byte
deriving DecidableEq, Repr

/-- A launch with everything wired starts in the reset state under its parameters; any other is refused, and no
transaction is taken from it (R215). Only wiring is checked: what a launch does whose parameters break the bounds of
00_scope.md R8 the spec leaves open, and here it starts. DESIGN CHOICE, log 16. -/
def Launch.start (l : Launch) : Host.Outcome State Fault Refusal :=
  match l.video with
  | none => .refused (.unwired .videoUnit)
  | some vdp =>
  match l.sound with
  | none => .refused (.unwired .soundUnit)
  | some snd =>
  match l.pageTable with
  | false => .refused (.unwired .pageTable)
  | true =>
  match l.boot with
  | none => .refused (.unwired (.region .boot))
  | some boot =>
  match l.basic with
  | none => .refused (.unwired (.region .basic))
  | some basic =>
  match l.cart1 with
  | none => .refused (.unwired (.region .cart1))
  | some cart1 =>
  match l.cart2 with
  | none => .refused (.unwired (.region .cart2))
  | some cart2 =>
  match l.ram with
  | none => .refused (.unwired (.region .ram))
  | some ram =>
  match l.unmapped with
  | none => .refused (.unwired (.region .unmapped))
  | some unmapped =>
    .next (State.resetWith
      { bootRom := boot, basicRom := basic, cart1Rom := cart1.2, cart2Rom := cart2.2, unmappedPage := unmapped,
        initRam := ram, cart1Size := cart1.1, cart2Size := cart2.1, initSndSel := snd.1, initSndRegs := snd.2,
        vdpState0 := vdp, ctrl1 := l.ctrl1, ctrl2 := l.ctrl2 })

end Sys2Proof.Machine
end

