-- ==== Sys2Proof/Machine/Pseudo.lean ====
section
/-! DEFINITION. The pseudo-transactions (30_encoding.md R95), each a fixed sequence of instructions. A port written with
two hexadecimal digits has upper bits 0x00#8 (R94). -/

namespace Sys2Proof.Machine

/-- The pseudo-transactions of R95. `joySel v` is JOYSEL `n` with `n` = `v[6]`: the other bits of the written byte are
the program's own (log 14). -/
inductive Pseudo where
  | setMap (v : Byte)
  | sndSel (r : Byte)
  | sndWr (r v : Byte)
  | sndRd (r : Byte)
  | joySel (v : Byte)
deriving DecidableEq, Repr

/-- The expansion of a pseudo-transaction (R95). -/
def expandPseudo : Pseudo → List Instr
  | .setMap v => [.outMapctl 0x00#8 v]
  | .sndSel r => [.outSndSelect 0x00#8 r]
  | .sndWr r v => [.outSndSelect 0x00#8 r, .outSndWrite 0x00#8 v]
  | .sndRd r => [.outSndSelect 0x00#8 r, .inSndData 0x00#8]
  | .joySel v => [.outSndSelect 0x00#8 0x0F#8, .outSndWrite 0x00#8 v]

/-- A list of instructions as the processor issues it. -/
def issue (is : List Instr) : List BusEvent := is.map fun i => .transaction (encode i)

end Sys2Proof.Machine
end

