-- ==== Sys2Proof/Safety.lean ====
section
/-! DEFINITION. The terms claims are stated in: the invariant every reachable state meets (10_state.md R28 to R34), and a
run that has an end state (70_reset_and_hazards.md R256). -/

namespace Sys2Proof.Machine

/-- `PT = Build(PortA8)` (10_state.md R28). -/
abbrev State.tableCurrent (s : State) : Prop := s.pt = build s.portA8

/-- Every region's contents are in canonical form and inside the region, and no cartridge image is smaller than the
least size (10_state.md R30, R31). -/
abbrev State.regionsSound (s : State) : Prop :=
  (s.boot.wf ∧ s.boot.within Config.bootRomSize) ∧
  (s.basic.wf ∧ s.basic.within Config.basicRomSize) ∧
  (s.cart1.wf ∧ s.cart1.within s.cart1Size) ∧
  (s.cart2.wf ∧ s.cart2.within s.cart2Size) ∧
  (s.ram.wf ∧ s.ram.within Config.ramSize) ∧
  (s.unmapped.wf ∧ s.unmapped.within Config.pageSize) ∧
  Config.cartMinSize ≤ s.cart1Size ∧ Config.cartMinSize ≤ s.cart2Size

/-- The invariant of the block between any two transactions. -/
abbrev State.Inv (s : State) : Prop := s.tableCurrent ∧ s.regionsSound

/-- The parameters a session may start from (00_scope.md R8): images inside their regions, in canonical form, and no
cartridge image smaller than the least size. -/
abbrev Params.sound (p : Params) : Prop :=
  (p.bootRom.wf ∧ p.bootRom.within Config.bootRomSize) ∧
  (p.basicRom.wf ∧ p.basicRom.within Config.basicRomSize) ∧
  (p.cart1Rom.wf ∧ p.cart1Rom.within p.cart1Size) ∧
  (p.cart2Rom.wf ∧ p.cart2Rom.within p.cart2Size) ∧
  (p.initRam.wf ∧ p.initRam.within Config.ramSize) ∧
  (p.unmappedPage.wf ∧ p.unmappedPage.within Config.pageSize) ∧
  Config.cartMinSize ≤ p.cart1Size ∧ Config.cartMinSize ≤ p.cart2Size

/-- The block can take a transaction: its mark FAULT is empty (60_exceptions.md R213). -/
abbrev State.running (s : State) : Prop := s.fault = none

/-- `k` steps end in `s'`, and the run has an end state: its mark FAULT is empty (70_reset_and_hazards.md R256). -/
abbrev State.runsTo (s : State) (k : Nat) (s' : State) : Prop :=
  Host.Core.run Sys2Proof.core k s = .next s' ∧ s'.running

/-- The next state of an outcome, if it has one. -/
def nextState (o : Host.Outcome State Fault Refusal) : Option State :=
  match o with
  | .next s => some s
  | .fault _ => none
  | .refused _ => none

end Sys2Proof.Machine
end

