-- ==== Sys2Proof/Certificates/Slice0/Obligations.lean ====
section
/-! DEFINITION. The statements about the model. Each docstring names the rule of spec/ it formalises; where a clause rests
on one of the spec's own decisions (D1 to D23) or on a choice of the model (log n), the docstring says so. -/

open Sys2Proof Sys2Proof.Machine

/-! ### Encoding and decoding -/

/-- 30_encoding.md R81, R82 (the selector word is the spec's own device, D19; the byte form is log 11): no bit of an
encoding is dropped. Decoding the transaction, or the bytes, of a well-formed instruction gives it back. -/
def Obligations.DecodeInvertsEncode : Prop :=
  ∀ (i : Instr) (rest : List Byte), i.wellFormed = true →
    decode (encode i) = i ∧ decodeBytes (encodeBytes i ++ rest) = .ok (i, rest)

/-- The other direction (30_encoding.md R82, R90; D19): every transaction decodes to a well-formed instruction whose
encoding has the same selector word, and, for a write, the same data byte. A read has no data byte (log 11). -/
def Obligations.EncodeInvertsDecode : Prop :=
  ∀ t : Transaction,
    (decode t).wellFormed = true ∧ (encode (decode t)).selector = t.selector ∧
    (t.selector.getLsbD 16 = true → encode (decode t) = t)

/-- 30_encoding.md R82 (D19): the decoder gives the row the match and mask table takes, and no two rows that are no
default match one selector. -/
def Obligations.DecodeFollowsOpcodeTable : Prop :=
  (∀ t : Transaction, ∀ row ∈ opcodeRows, row.taken t.selector = true → (decode t).mnemonic = row.mnemonic) ∧
  (∀ sel : Selector, ∀ row ∈ opcodeRows, ∀ other ∈ opcodeRows, row.isDefault = false → other.isDefault = false →
    row.fits sel = true → other.fits sel = true → row = other)

/-- 30_encoding.md R85 and R86: the read and write decode of every port, `h` its bits 15:8 and `p` its bits 7:0. -/
def Obligations.PortDecodeFollowsTheCaseTables : Prop :=
  (∀ h p v : Byte, decode ⟨selectorOf 0b00#2 (portOf h p), v⟩ =
    if p = 0x98#8 then .inVdpData h
    else if p = 0x99#8 then .inVdpStatus h
    else if p = 0xA2#8 then .inSndData h
    else if p = 0xA8#8 then .inMapctl h
    else if p = 0xA9#8 then .inPortA9 h
    else .inIdle (portOf h p)) ∧
  (∀ h p v : Byte, decode ⟨selectorOf 0b01#2 (portOf h p), v⟩ =
    if p = 0x98#8 then .outVdpData h v
    else if p = 0x99#8 then .outVdpControl h v
    else if p = 0xA0#8 then .outSndSelect h v
    else if p = 0xA1#8 then .outSndWrite h v
    else if p = 0xA8#8 then .outMapctl h v
    else .outIgnored (portOf h p) v)

/-- Selector words written out in 95_test_vectors.md Part 2.1, one of each row, some with upper port bits set. -/
def Obligations.WrittenOutSelectorsDecode : Prop :=
  decode ⟨0b000000000010011000#18, 0x00#8⟩ = .inVdpData 0x00 ∧
  decode ⟨0b001111111110011000#18, 0x00#8⟩ = .inVdpData 0xFF ∧
  decode ⟨0b000000000010011001#18, 0x00#8⟩ = .inVdpStatus 0x00 ∧
  decode ⟨0b000000000010100010#18, 0x00#8⟩ = .inSndData 0x00 ∧
  decode ⟨0b000001001010101000#18, 0x00#8⟩ = .inMapctl 0x12 ∧
  decode ⟨0b001010100010101001#18, 0x00#8⟩ = .inPortA9 0xA8 ∧
  decode ⟨0b001001100000000000#18, 0x00#8⟩ = .inIdle 0x9800 ∧
  decode ⟨0b010000000010011000#18, 0x41⟩ = .outVdpData 0x00 0x41 ∧
  decode ⟨0b010000000010011001#18, 0x80⟩ = .outVdpControl 0x00 0x80 ∧
  decode ⟨0b010000000010100000#18, 0x3F⟩ = .outSndSelect 0x00 0x3F ∧
  decode ⟨0b010000000010100001#18, 0x40⟩ = .outSndWrite 0x00 0x40 ∧
  decode ⟨0b011111111110101000#18, 0x36⟩ = .outMapctl 0xFF 0x36 ∧
  decode ⟨0b010000000010100010#18, 0x55⟩ = .outIgnored 0x00A2 0x55 ∧
  decode ⟨0b101100000000000000#18, 0x00#8⟩ = .memRd 0xC000 ∧
  decode ⟨0b111000000000000000#18, 0x22⟩ = .memWr 0x8000 0x22

/-- 30_encoding.md R83 (the 16-bit port width is D1): ports with equal bits 7:0 behave the same, whatever their bits 15:8 hold: a step that takes an
I/O transaction gives one and the same outcome. The rule's example ports all reach the Mapper Control Register. -/
def Obligations.UpperPortBitsAreIgnored : Prop :=
  (∀ (s : State) (d : BitVec 2) (port port' : Port) (v : Byte) (rest : List BusEvent), d.getLsbD 1 = false →
    decodedPort port = decodedPort port' →
    step { s with bus := .transaction ⟨selectorOf d port, v⟩ :: rest } =
      step { s with bus := .transaction ⟨selectorOf d port', v⟩ :: rest }) ∧
  (∀ port ∈ [0x00A8#16, 0x12A8#16, 0xFFA8#16], ∀ v : Byte,
    (∃ h, decode ⟨selectorOf 0b00#2 port, v⟩ = .inMapctl h) ∧ (∃ h, decode ⟨selectorOf 0b01#2 port, v⟩ = .outMapctl h v))

/-- 30_encoding.md R92, R93 (D6): every entry that Build forms survives packing into 17 bits. -/
def Obligations.PackedEntriesUnpack : Prop :=
  ∀ (c : Byte) (p : Fin 64), Entry.unpack (build c)[p].pack = some (build c)[p]

/-! ### The step -/

/-- A step runs the decoded instruction (20_memory.md R64, 70_reset_and_hazards.md R250; the queue is log 1, the byte
returned is log 2): with a transaction next on the bus and FAULT empty, step is exec of the decoded instruction at the
state in which the transaction is taken from the queue and no byte has been returned. -/
def Obligations.StepRunsTheIssuedTransaction : Prop :=
  ∀ (s : State) (t : Transaction) (rest : List BusEvent), s.fault = none → s.bus = .transaction t :: rest →
    step s = exec (decode t) { s with bus := rest, result := none }

/-- 10_state.md R35 (D11; the event queue is log 3): a host event sets one controller byte and changes nothing else.
With no event pending a step changes nothing (log 1). -/
def Obligations.HostEventsSetOneControllerByte : Prop :=
  (∀ (s : State) (v : Byte) (rest : List BusEvent), s.fault = none → s.bus = .hostCtrl1 v :: rest →
    step s = .next { s with bus := rest, ctrl1 := v }) ∧
  (∀ (s : State) (v : Byte) (rest : List BusEvent), s.fault = none → s.bus = .hostCtrl2 v :: rest →
    step s = .next { s with bus := rest, ctrl2 := v }) ∧
  (∀ s : State, s.fault = none → s.bus = [] → step s = .next s)

/-- 60_exceptions.md R213 (D3; log 4): in a state whose mark FAULT is set no later transaction is taken: the step stops
with the recorded reason. -/
def Obligations.FaultMarkStopsTheBlock : Prop :=
  ∀ (s : State) (f : Fault), s.fault = some f → step s = .fault f

/-- 30_encoding.md R90: every selector word matches exactly one row of the table and decodes to that row whatever the
data byte, a read of a port with no read row returns 0xFF, a write of one with no write row does nothing, and neither
sets the fault mark. -/
def Obligations.EverySelectorDecodesToOneRow : Prop :=
  (∀ sel : Selector, ∃ row ∈ opcodeRows, row.taken sel = true ∧
    (∀ other ∈ opcodeRows, other.taken sel = true → other = row) ∧
    ∀ d : Byte, (decode ⟨sel, d⟩).mnemonic = row.mnemonic ∧ (decode ⟨sel, d⟩).wellFormed = true) ∧
  (∀ (s : State) (port : Port) (v : Byte) (rest : List BusEvent), s.fault = none →
    s.bus = .transaction ⟨selectorOf 0b00#2 port, v⟩ :: rest →
    port.extractLsb' 0 8 ∉ [0x98#8, 0x99#8, 0xA2#8, 0xA8#8, 0xA9#8] →
    step s = .next { s with bus := rest, result := some 0xFF#8 }) ∧
  (∀ (s : State) (port : Port) (v : Byte) (rest : List BusEvent), s.fault = none →
    s.bus = .transaction ⟨selectorOf 0b01#2 port, v⟩ :: rest →
    port.extractLsb' 0 8 ∉ [0x98#8, 0x99#8, 0xA0#8, 0xA1#8, 0xA8#8] →
    step s = .next { s with bus := rest, result := none })

/-- 70_reset_and_hazards.md R255 (D14; that a MEM_RD of an absent byte sets the mark in a next state is log 4): every
transaction completes, whatever the selector word and the data byte: the step answers a next state with the rest of the
queue pending, a read, and only a read, has returned a byte unless the mark is set, and only a MEM_RD sets the mark. -/
def Obligations.EveryTransactionCompletes : Prop :=
  ∀ (s : State) (t : Transaction) (rest : List BusEvent), s.fault = none → s.bus = .transaction t :: rest →
    ∃ s', step s = .next s' ∧ s'.bus = rest ∧
      (s'.fault = none → (s'.result.isSome = true ↔ t.selector.getLsbD 16 = false)) ∧
      (s'.fault ≠ none → s'.result = none ∧ t.selector.getLsbD 17 = true ∧ t.selector.getLsbD 16 = false)

/-! ### I/O reads -/

/-- 41_port_reads.md R111, R112 (what the video unit returns is its own: D10, D21; log 9): the read returns the video
unit's byte, keeps its next state, and changes nothing else. -/
def Obligations.VideoReadsReturnTheVideoUnitsByte : Prop :=
  (∀ (h : Byte) (s : State), exec (.inVdpData h) s =
    .next { s with vdp := (Config.vdpReadData s.vdp).2, result := some (Config.vdpReadData s.vdp).1 }) ∧
  (∀ (h : Byte) (s : State), exec (.inVdpStatus h) s =
    .next { s with vdp := (Config.vdpReadStatus s.vdp).2, result := some (Config.vdpReadStatus s.vdp).1 })

/-- 41_port_reads.md R113 with 10_state.md R37, R38 (D8; log 10): registers 0xE and 0xF are returned verbatim, any other
through the sound unit's read function, and the read changes nothing. -/
def Obligations.SoundReadReturnsTheSelectedRegister : Prop :=
  ∀ (h : Byte) (s : State),
    (s.sndSel = 0xE#4 ∨ s.sndSel = 0xF#4 →
      exec (.inSndData h) s = .next { s with result := some (s.soundReg s.sndSel) }) ∧
    (s.sndSel ≠ 0xE#4 → s.sndSel ≠ 0xF#4 →
      exec (.inSndData h) s = .next { s with result := some (Config.sndRegRead s.sndSel (s.soundReg s.sndSel)) })

/-- 10_state.md R22: PortA8 keeps all eight bits; a read returns it and changes nothing; a write stores the value and
runs the remap; no other instruction changes it; and a read after a write of `v` returns `v`. -/
def Obligations.ControlRegisterReadsBackVerbatim : Prop :=
  (∀ (h : Byte) (s : State), exec (.inMapctl h) s = .next { s with result := some s.portA8 }) ∧
  (∀ (h v : Byte) (s : State), exec (.outMapctl h v) s = .next { s with portA8 := v, pt := build v }) ∧
  (∀ (i : Instr) (s s' : State), exec i s = .next s' → (∀ h v, i ≠ .outMapctl h v) → s'.portA8 = s.portA8) ∧
  (∀ (s : State) (h h' v d : Byte) (rest : List BusEvent), s.fault = none →
    s.bus = .transaction ⟨selectorOf 0b01#2 (portOf h 0xA8#8), v⟩ :: .transaction ⟨selectorOf 0b00#2 (portOf h' 0xA8#8), d⟩ :: rest →
    ∃ s', Host.Core.run Sys2Proof.core 2 s = .next s' ∧ s'.result = some v ∧ s'.portA8 = v ∧ s'.bus = rest)

/-- 41_port_reads.md R115, R116, R117: port 0xA9 and every port with no read row return 0xFF in every state, and the
read changes nothing. -/
def Obligations.IdleReadsReturnFF : Prop :=
  (∀ (h : Byte) (s : State), exec (.inPortA9 h) s = .next { s with result := some 0xFF#8 }) ∧
  (∀ (port : Port) (s : State), exec (.inIdle port) s = .next { s with result := some 0xFF#8 }) ∧
  (∀ h v : Byte, decode ⟨selectorOf 0b00#2 (portOf h 0b10101001#8), v⟩ = .inPortA9 h) ∧
  (∀ (port : Port) (v : Byte), port.extractLsb' 0 8 ∉ [0x98#8, 0x99#8, 0xA2#8, 0xA8#8, 0xA9#8] →
    decode ⟨selectorOf 0b00#2 port, v⟩ = .inIdle port)

/-- 41_port_reads.md R110: an I/O read returns the byte its row names; only the two video reads may change VDP; nothing
else changes, and none faults. -/
def Obligations.IoReadReturnsOneByteAndChangesOnlyVdp : Prop :=
  ∀ (port : Port) (s : State), ∃ (b : Byte) (u : VdpState),
    exec (decodeRead port) s = .next { s with vdp := u, result := some b } ∧
    (port.extractLsb' 0 8 = 0x98#8 → (b, u) = Config.vdpReadData s.vdp) ∧
    (port.extractLsb' 0 8 = 0x99#8 → (b, u) = Config.vdpReadStatus s.vdp) ∧
    (port.extractLsb' 0 8 = 0xA2#8 → b = soundReadSelected s) ∧
    (port.extractLsb' 0 8 = 0xA8#8 → b = s.portA8) ∧
    (port.extractLsb' 0 8 ∉ [0x98#8, 0x99#8, 0xA2#8, 0xA8#8] → b = 0xFF#8) ∧
    (port.extractLsb' 0 8 ∉ [0x98#8, 0x99#8] → u = s.vdp)

/-! ### I/O writes -/

/-- 42_port_writes.md R131, R132 (what the video unit does with the byte is its own: D10; log 9): the byte is forwarded
whole and nothing else changes. -/
def Obligations.VideoWritesForwardTheByte : Prop :=
  (∀ (h v : Byte) (s : State), exec (.outVdpData h v) s = .next { s with vdp := Config.vdpWriteData s.vdp v }) ∧
  (∀ (h v : Byte) (s : State), exec (.outVdpControl h v) s = .next { s with vdp := Config.vdpWriteControl s.vdp v })

/-- 42_port_writes.md R133: port 0xA0 sets SND.sel to the low 4 bits of the value, drops the rest, and changes nothing
else. -/
def Obligations.SoundSelectTakesTheLowNibble : Prop :=
  (∀ (h v : Byte) (s : State), ∃ r : BitVec 4, r.toNat = v.toNat % 16 ∧
    exec (.outSndSelect h v) s = .next { s with sndSel := r }) ∧
  (∀ h v : Byte, decode ⟨selectorOf 0b01#2 (portOf h 0b10100000#8), v⟩ = .outSndSelect h v)

/-- 42_port_writes.md R134, R135 (registers 0xE and 0xF verbatim, the others through the sound unit's store function: D8,
log 10; controller bytes sampled at this transaction: D11): the forwarded write first, then, with register 0xF selected,
the controller byte that bit 6 of the written value picks goes to register 0xE. Every other register and every other
part of the state is unchanged. -/
def Obligations.SoundWriteForwardsThenMultiplexes : Prop :=
  ∀ (h v : Byte) (s : State), ∃ s', exec (.outSndWrite h v) s = .next s' ∧ s' = { s with sndReg := s'.sndReg } ∧
    (s.sndSel = 0xF#4 → s'.soundReg 0xF#4 = v ∧ s'.soundReg 0xE#4 = (if v.getLsbD 6 then s.ctrl2 else s.ctrl1) ∧
      ∀ r, r ≠ 0xE#4 → r ≠ 0xF#4 → s'.soundReg r = s.soundReg r) ∧
    (s.sndSel = 0xE#4 → s'.soundReg 0xE#4 = v ∧ ∀ r, r ≠ 0xE#4 → s'.soundReg r = s.soundReg r) ∧
    (s.sndSel ≠ 0xE#4 → s.sndSel ≠ 0xF#4 → s'.soundReg s.sndSel = Config.sndRegWrite s.sndSel v ∧
      ∀ r, r ≠ s.sndSel → s'.soundReg r = s.soundReg r)

/-- 42_port_writes.md R136: port 0xA8 stores the whole value and rebuilds the table inside the transaction; nothing else
changes; a write of the value already held leaves a current table as it was; 0xFF maps RAM everywhere. -/
def Obligations.MapperWriteStoresAndRebuilds : Prop :=
  (∀ h v : Byte, decode ⟨selectorOf 0b01#2 (portOf h 0b10101000#8), v⟩ = .outMapctl h v) ∧
  (∀ (h v : Byte) (s : State), exec (.outMapctl h v) s = .next { s with portA8 := v, pt := build v }) ∧
  (∀ (h : Byte) (s : State), s.pt = build s.portA8 → exec (.outMapctl h s.portA8) s = .next s) ∧
  (∀ (h : Byte) (s : State), ∃ s', exec (.outMapctl h 0xFF#8) s = .next s' ∧ s'.portA8 = 0xFF#8 ∧
    ∀ p : Fin 64, s'.pt[p] = ⟨.ram, p.val * 0x400, 0xFF#8⟩)

/-- 42_port_writes.md R137: a write of a port with no write row, 0xA2 and 0xA9 among them, changes no state. -/
def Obligations.IgnoredWritesChangeNothing : Prop :=
  (∀ (port : Port) (v : Byte) (s : State), exec (.outIgnored port v) s = .next s) ∧
  (∀ (port : Port) (v : Byte), port.extractLsb' 0 8 ∉ [0x98#8, 0x99#8, 0xA0#8, 0xA1#8, 0xA8#8] →
    decode ⟨selectorOf 0b01#2 port, v⟩ = .outIgnored port v)

/-- 42_port_writes.md R130: an I/O write has the effect its row names and no other: no region, host input, fault mark or
returned byte changes; only port 0xA8 writes PortA8 and PT, only 0xA0 and 0xA1 write SND, only 0x98 and 0x99 write VDP.
None faults. -/
def Obligations.IoWriteHasOnlyItsRowsEffect : Prop :=
  ∀ (port : Port) (v : Byte) (s : State), ∃ s', exec (decodeWrite port v) s = .next s' ∧
    (s' = { s with portA8 := s'.portA8, pt := s'.pt, sndSel := s'.sndSel, sndReg := s'.sndReg, vdp := s'.vdp }) ∧
    (port.extractLsb' 0 8 = 0xA8#8 → s'.portA8 = v ∧ s'.pt = build v) ∧
    (port.extractLsb' 0 8 ≠ 0xA8#8 → s'.portA8 = s.portA8 ∧ s'.pt = s.pt) ∧
    (port.extractLsb' 0 8 = 0xA0#8 → s'.sndSel.toNat = v.toNat % 16 ∧ s'.sndReg = s.sndReg) ∧
    (port.extractLsb' 0 8 = 0xA1#8 → s'.sndSel = s.sndSel ∧ s'.sndReg =
      if s.sndSel = 0xF#4 then
        (soundWriteSelected v s).sndReg.set 0xE
          (if ((soundWriteSelected v s).soundReg 0xF#4).getLsbD 6 then s.ctrl2 else s.ctrl1)
      else (soundWriteSelected v s).sndReg) ∧
    (port.extractLsb' 0 8 ∉ [0xA0#8, 0xA1#8] → s'.sndSel = s.sndSel ∧ s'.sndReg = s.sndReg) ∧
    (port.extractLsb' 0 8 = 0x98#8 → s'.vdp = Config.vdpWriteData s.vdp v) ∧
    (port.extractLsb' 0 8 = 0x99#8 → s'.vdp = Config.vdpWriteControl s.vdp v) ∧
    (port.extractLsb' 0 8 ∉ [0x98#8, 0x99#8] → s'.vdp = s.vdp)

/-! ### The Bank Mapper -/

/-- 43_bank_mapper.md R161, R164, R165 with 30_encoding.md R88: entry `p` of `Build(c)`, by the 2-bit field of its
quadrant. -/
def Obligations.BuildFollowsTheRegionSelectTable : Prop :=
  ∀ (c : Byte) (p : Fin 64), (build c)[p] =
    if (c.toNat >>> (2 * (p.val / 16))) &&& 3 = 3 then ⟨.ram, 0x400 * p.val, 0xFF#8⟩
    else if (c.toNat >>> (2 * (p.val / 16))) &&& 3 = 2 then ⟨.cart2, 0x400 * p.val, 0x00#8⟩
    else if (c.toNat >>> (2 * (p.val / 16))) &&& 3 = 1 then ⟨.cart1, 0x400 * p.val, 0x00#8⟩
    else if p.val / 16 = 0 then ⟨.boot, 0x400 * p.val, 0x00#8⟩
    else if p.val / 16 = 1 then ⟨.basic, 0x400 * (p.val - 16), 0x00#8⟩
    else ⟨.unmapped, 0, 0x00#8⟩

/-- 43_bank_mapper.md R162: quadrant `q` covers the addresses `q*0x4000` to `q*0x4000 + 0x3FFF`, and its entries depend
on its own 2-bit field alone. -/
def Obligations.QuadrantsDependOnTheirOwnField : Prop :=
  (∀ (c c' : Byte) (p : Fin 64),
    (c.toNat >>> (2 * (p.val / 16))) &&& 3 = (c'.toNat >>> (2 * (p.val / 16))) &&& 3 → (build c)[p] = (build c')[p]) ∧
  (∀ a : Addr, (pageIndex a).val / 16 = a.toNat / 0x4000)

/-- 70_reset_and_hazards.md R251, 43_bank_mapper.md R169: the transaction after a write of `v` to port 0xA8 translates
through `Build(v)`; no older entry is seen. -/
def Obligations.MapperWriteTakesEffectAtOnce : Prop :=
  ∀ (s : State) (h v : Byte) (rest : List BusEvent), s.fault = none →
    s.bus = .transaction ⟨selectorOf 0b01#2 (portOf h 0xA8#8), v⟩ :: rest →
    ∃ s', step s = .next s' ∧ s'.bus = rest ∧ s'.fault = none ∧ s'.pt = build v ∧
      ∀ a : Addr, translate s' a =
        ⟨(build v)[pageIndex a].region, (build v)[pageIndex a].offset + a.toNat % 0x400, (build v)[pageIndex a].wmask⟩

/-- 10_state.md R24: PortA8 changes only by an I/O write whose port has bits 7:0 equal to 0xA8, whatever its bits 15:8
hold; the page table changes with it and by nothing else. -/
def Obligations.OnlyMapperWritesChangeTheMapping : Prop :=
  ∀ s s' : State, step s = .next s' →
    (s'.portA8 = s.portA8 ∧ s'.pt = s.pt) ∨
    ∃ (h v : Byte) (rest : List BusEvent),
      s.bus = .transaction ⟨selectorOf 0b01#2 (portOf h 0xA8#8), v⟩ :: rest ∧ s'.portA8 = v ∧ s'.pt = build v

/-- 10_state.md R28: `PT = Build(PortA8)` after reset, under any parameters, and between any two steps. -/
def Obligations.PageTableStaysCurrent : Prop :=
  (∀ p : Params, (State.resetWith p).pt = build (State.resetWith p).portA8) ∧
  (∀ s s' : State, s.pt = build s.portA8 → step s = .next s' → s'.pt = build s'.portA8)

/-! ### Translation -/

/-- 20_memory.md R57: the page index is `addr[15:10]`, and the offset is the entry's plus `addr[9:0]`. -/
def Obligations.TranslateAddsThePageOffset : Prop :=
  ∀ (s : State) (a : Addr) (p : Fin 64), p.val = a.toNat / 0x400 →
    translate s a = ⟨s.pt[p].region, s.pt[p].offset + a.toNat % 0x400, s.pt[p].wmask⟩

/-- 20_memory.md R59 (derived there from R58): while the table is current, two different addresses never reach the same
byte of a region other than the placeholder, and two addresses of unmapped quadrants reach the same placeholder byte
exactly when their bits 9:0 are equal. -/
def Obligations.DistinctAddressesReachDistinctBytes : Prop :=
  ∀ (s : State) (a b : Addr), s.pt = build s.portA8 → (translate s a).region = (translate s b).region →
    ((translate s a).region ≠ .unmapped → a ≠ b → (translate s a).offset ≠ (translate s b).offset) ∧
    ((translate s a).region = .unmapped →
      ((translate s a).offset = (translate s b).offset ↔ a.toNat % 0x400 = b.toNat % 0x400))

/-- 43_bank_mapper.md R168 (derived there): while the table is current, no translated offset leaves its region, and RAM
is the only region reached with a writable mask. -/
def Obligations.TranslatedOffsetsStayInTheirRegion : Prop :=
  ∀ (s : State) (a : Addr), s.pt = build s.portA8 →
    ((translate s a).region = .boot → (translate s a).offset < 0x4000) ∧
    ((translate s a).region = .basic → (translate s a).offset < 0x4000) ∧
    ((translate s a).region = .cart1 → (translate s a).offset < 0x10000) ∧
    ((translate s a).region = .cart2 → (translate s a).offset < 0x10000) ∧
    ((translate s a).region = .ram → (translate s a).offset < 0x10000) ∧
    ((translate s a).region = .unmapped → (translate s a).offset < 0x400) ∧
    ((translate s a).region = .ram → (translate s a).wmask = 0xFF#8) ∧
    ((translate s a).region ≠ .ram → (translate s a).wmask = 0x00#8)

/-! ### Memory transactions -/

/-- 44_memory_access.md R190: MEM_RD returns the byte the entry lands on and changes nothing, or, where CART1 or CART2 has
no byte there, sets the mark FAULT and returns no byte (D3; that this is a next state with the mark set is log 4; the
returned byte is the field `result`, log 2). The write-mask plays no part. A current entry of the placeholder lands on
`UNMAPPED_PAGE[addr[9:0]]`. -/
def Obligations.MemoryReadFollowsTheEntry : Prop :=
  ∀ (s : State) (a : Addr) (p : Fin 64), p.val = a.toNat / 0x400 →
    ((s.pt[p].region = .cart1 ∧ s.cart1Size ≤ s.pt[p].offset + a.toNat % 0x400 ∨
      s.pt[p].region = .cart2 ∧ s.cart2Size ≤ s.pt[p].offset + a.toNat % 0x400) →
      exec (.memRd a) s = .next { s with
        fault := some (.regionBounds s.pt[p].region (s.pt[p].offset + a.toNat % 0x400)), result := none }) ∧
    (¬(s.pt[p].region = .cart1 ∧ s.cart1Size ≤ s.pt[p].offset + a.toNat % 0x400 ∨
      s.pt[p].region = .cart2 ∧ s.cart2Size ≤ s.pt[p].offset + a.toNat % 0x400) →
      exec (.memRd a) s = .next { s with
        result := some (s.byteAt s.pt[p].region (s.pt[p].offset + a.toNat % 0x400)) }) ∧
    (s.pt = build s.portA8 → s.pt[p].region = .unmapped → s.pt[p].offset + a.toNat % 0x400 = a.toNat % 0x400)

/-- 44_memory_access.md R192 (derived there; the fault is D3): while the table is current, what MEM_RD returns, by the
field of the address's quadrant. -/
def Obligations.MemoryReadByQuadrantField : Prop :=
  ∀ (s : State) (a : Addr) (f : Nat), s.pt = build s.portA8 →
    f = (s.portA8.toNat >>> (2 * (a.toNat / 0x4000))) &&& 3 →
    (f = 0 → a.toNat < 0x4000 → exec (.memRd a) s = .next { s with result := some (s.boot.read a.toNat) }) ∧
    (f = 0 → 0x4000 ≤ a.toNat → a.toNat < 0x8000 →
      exec (.memRd a) s = .next { s with result := some (s.basic.read (a.toNat - 0x4000)) }) ∧
    (f = 0 → 0x8000 ≤ a.toNat →
      exec (.memRd a) s = .next { s with result := some (s.unmapped.read (a.toNat % 0x400)) }) ∧
    (f = 1 → a.toNat < s.cart1Size →
      exec (.memRd a) s = .next { s with result := some (s.cart1.read a.toNat) }) ∧
    (f = 1 → s.cart1Size ≤ a.toNat →
      exec (.memRd a) s = .next { s with fault := some (.regionBounds .cart1 a.toNat), result := none }) ∧
    (f = 2 → a.toNat < s.cart2Size →
      exec (.memRd a) s = .next { s with result := some (s.cart2.read a.toNat) }) ∧
    (f = 2 → s.cart2Size ≤ a.toNat →
      exec (.memRd a) s = .next { s with fault := some (.regionBounds .cart2 a.toNat), result := none }) ∧
    (f = 3 → exec (.memRd a) s = .next { s with result := some (s.ram.read a.toNat) })

/-- 44_memory_access.md R193: through mask 0x00 MEM_WR changes nothing; through mask 0xFF into RAM it stores the byte at
the translated offset and leaves every other byte of every region, and everything else, as it was. While the table is
current one of the two holds, and the RAM offset is the address; and a byte so written stays in RAM while the quadrant
maps elsewhere and reads back once RAM is mapped again. It never faults. -/
def Obligations.MemoryWriteStoresThroughTheMask : Prop :=
  ∀ (s : State) (a : Addr) (v : Byte) (p : Fin 64), p.val = a.toNat / 0x400 →
    (s.pt[p].wmask = 0x00#8 → exec (.memWr a v) s = .next s) ∧
    (s.pt[p].wmask = 0xFF#8 → s.pt[p].region = .ram →
      ∃ s', exec (.memWr a v) s = .next s' ∧ s' = { s with ram := s'.ram } ∧
        s'.byteAt .ram (s.pt[p].offset + a.toNat % 0x400) = v ∧
        ∀ (r : Region) (off : Nat), ¬(r = .ram ∧ off = s.pt[p].offset + a.toNat % 0x400) →
          s'.byteAt r off = s.byteAt r off) ∧
    (s.pt = build s.portA8 →
      s.pt[p].wmask = 0x00#8 ∨
      s.pt[p].wmask = 0xFF#8 ∧ s.pt[p].region = .ram ∧ s.pt[p].offset + a.toNat % 0x400 = a.toNat) ∧
    (∀ h c h' c' : Byte, s.pt = build s.portA8 → s.pt[p].wmask = 0xFF#8 →
      (c'.toNat >>> (2 * (a.toNat / 0x4000))) &&& 3 = 3 →
      ∃ s1 s2 s3 s4, exec (.memWr a v) s = .next s1 ∧ exec (.outMapctl h c) s1 = .next s2 ∧
        s2.byteAt .ram a.toNat = v ∧ exec (.outMapctl h' c') s2 = .next s3 ∧ exec (.memRd a) s3 = .next s4 ∧
        s4.result = some v)

/-- 44_memory_access.md R194 (the formula is the spec's own reading, D5; what masks other than 0x00 and 0xFF do, and the
discard outside RAM, is log 12): in every state, also with an entry Build never forms, MEM_WR leaves
`(old & ~m) | (v & m)` at the RAM byte its translation gives, changes no other byte of any region, and, where the
translation gives another region, changes nothing at all. -/
def Obligations.MemoryWriteMergesBytewise : Prop :=
  ∀ (s : State) (a : Addr) (v : Byte), ∃ s', exec (.memWr a v) s = .next s' ∧ s' = { s with ram := s'.ram } ∧
    ((translate s a).region = .ram →
      s'.byteAt .ram (translate s a).offset =
        (s.byteAt .ram (translate s a).offset &&& ~~~(translate s a).wmask) ||| (v &&& (translate s a).wmask)) ∧
    (∀ (r : Region) (off : Nat), ¬(r = .ram ∧ off = (translate s a).offset) → s'.byteAt r off = s.byteAt r off) ∧
    ((translate s a).region ≠ .ram → s' = s)

/-- 20_memory.md R59, R65 and 44_memory_access.md R193 seen from the processor: while the table is current, a MEM_WR of
`v` to `a` changes what MEM_RD answers at `a` alone, and there only if `a`'s quadrant maps RAM, where it answers `v`. -/
def Obligations.MemoryWriteIsSeenOnlyAtItsAddress : Prop :=
  ∀ (s s1 : State) (a b : Addr) (v : Byte), s.pt = build s.portA8 → exec (.memWr a v) s = .next s1 →
    (b = a → (s.portA8.toNat >>> (2 * (a.toNat / 0x4000))) &&& 3 = 3 →
      exec (.memRd b) s1 = .next { s1 with result := some v }) ∧
    ((b ≠ a ∨ (s.portA8.toNat >>> (2 * (a.toNat / 0x4000))) &&& 3 ≠ 3) →
      ∃ s2, exec (.memRd b) s = .next s2 ∧
        exec (.memRd b) s1 = .next { s1 with result := s2.result, fault := s2.fault })

/-- 10_state.md R31, R32 (derived there): no step changes a byte of BOOT, BASIC, CART1, CART2 or UNMAPPED, or the size of
a cartridge image. -/
def Obligations.RomsAndPlaceholderNeverChange : Prop :=
  ∀ s s' : State, step s = .next s' →
    (∀ (r : Region) (off : Nat), r ≠ .ram → s'.byteAt r off = s.byteAt r off) ∧
    s'.cart1Size = s.cart1Size ∧ s'.cart2Size = s.cart2Size

/-- 20_memory.md R63, 41_port_reads.md R110, 42_port_writes.md R130, 44_memory_access.md R190 and R193 taken together (D21
for the video unit): which instruction may change which part of the state. Only MEM_WR changes a byte of a region, only
MEM_RD the fault mark, only OUT_MAPCTL PortA8 and PT, only the four video rows VDP, only OUT_SND_SELECT SND.sel, only
OUT_SND_WRITE SND.reg; no write changes the returned byte; and none changes a cartridge size, a controller byte or what
is pending. -/
def Obligations.OnlyNamedInstructionsChangeState : Prop :=
  ∀ (i : Instr) (s s' : State), exec i s = .next s' →
    ((∀ a v, i ≠ .memWr a v) → ∀ (r : Region) (off : Nat), s'.byteAt r off = s.byteAt r off) ∧
    ((∀ a, i ≠ .memRd a) → s'.fault = s.fault) ∧
    ((∀ h v, i ≠ .outMapctl h v) → s'.portA8 = s.portA8 ∧ s'.pt = s.pt) ∧
    ((∀ h, i ≠ .inVdpData h) → (∀ h, i ≠ .inVdpStatus h) → (∀ h v, i ≠ .outVdpData h v) →
      (∀ h v, i ≠ .outVdpControl h v) → s'.vdp = s.vdp) ∧
    ((∀ h v, i ≠ .outSndSelect h v) → s'.sndSel = s.sndSel) ∧
    ((∀ h v, i ≠ .outSndWrite h v) → s'.sndReg = s.sndReg) ∧
    ((encode i).selector.getLsbD 16 = true → s'.result = s.result) ∧
    s'.cart1Size = s.cart1Size ∧ s'.cart2Size = s.cart2Size ∧
    s'.ctrl1 = s.ctrl1 ∧ s'.ctrl2 = s.ctrl2 ∧ s'.bus = s.bus

/-! ### Faults -/

/-- 60_exceptions.md R212, R213, R214 (D3; the two-step form of a fault is log 4): a step sets FAULT only by a MEM_RD
translated to a cartridge offset at or past the image's size; the mark records the region and the offset, no byte is
returned, and nothing else changes. -/
def Obligations.FaultOnlyFromAnAbsentCartridgeByte : Prop :=
  ∀ (s s' : State) (f : Fault), step s = .next s' → s.fault = none → s'.fault = some f →
    ∃ (t : Transaction) (a : Addr) (rest : List BusEvent),
      s.bus = .transaction t :: rest ∧ decode t = .memRd a ∧
      f = .regionBounds (translate s a).region (translate s a).offset ∧
      ((translate s a).region = .cart1 ∧ s.cart1Size ≤ (translate s a).offset ∨
       (translate s a).region = .cart2 ∧ s.cart2Size ≤ (translate s a).offset) ∧
      s' = { s with bus := rest, result := none, fault := some f }

/-- 60_exceptions.md R214, last sentence (D3): with both images whole (0x10000 bytes) no fault can occur: every run, of
any number of steps and any bus events, ends in a state with FAULT empty. -/
def Obligations.WholeImagesNeverFault : Prop :=
  ∀ (k : Nat) (s : State), s.Inv → s.fault = none → 0x10000 ≤ s.cart1Size → 0x10000 ≤ s.cart2Size →
    ∃ s', s.runsTo k s'

/-! ### Reset and launch -/

/-- 10_state.md R45, 70_reset_and_hazards.md R240, R241 (PortA8 = 0x00 is the spec's decision D2, log 5; the rest are the
named parameters, log 6 to log 8): what reset leaves under any parameters, and that a later write of 0x00 to port 0xA8
restores PortA8 and PT to it and nothing else. -/
def Obligations.ResetLeavesTheParameters : Prop :=
  ∀ p : Params,
    ((State.resetWith p).portA8 = 0x00#8 ∧ (State.resetWith p).fault = none ∧ (State.resetWith p).bus = [] ∧
      (State.resetWith p).result = none ∧
      (State.resetWith p).boot = p.bootRom ∧ (State.resetWith p).basic = p.basicRom ∧
      (State.resetWith p).cart1 = p.cart1Rom ∧ (State.resetWith p).cart2 = p.cart2Rom ∧
      (State.resetWith p).ram = p.initRam ∧ (State.resetWith p).unmapped = p.unmappedPage ∧
      (State.resetWith p).cart1Size = p.cart1Size ∧ (State.resetWith p).cart2Size = p.cart2Size ∧
      (State.resetWith p).sndSel = p.initSndSel ∧ (State.resetWith p).sndReg = p.initSndRegs ∧
      (State.resetWith p).vdp = p.vdpState0 ∧ (State.resetWith p).ctrl1 = p.ctrl1 ∧
      (State.resetWith p).ctrl2 = p.ctrl2) ∧
    (∀ e : Fin 64, (State.resetWith p).pt[e] =
      if e.val < 16 then ⟨.boot, 0x400 * e.val, 0x00#8⟩
      else if e.val < 32 then ⟨.basic, 0x400 * (e.val - 16), 0x00#8⟩
      else ⟨.unmapped, 0, 0x00#8⟩) ∧
    (∀ (h : Byte) (s : State), exec (.outMapctl h 0x00#8) s =
      .next { s with portA8 := (State.resetWith p).portA8, pt := (State.resetWith p).pt })

/-- 70_reset_and_hazards.md R242 (derived there; rests on D2, log 5): after reset quadrant 0 reads the boot ROM, quadrant
1 the BASIC ROM, quadrants 2 and 3 the placeholder page, and no address is writable. -/
def Obligations.AfterResetOnlyRomsAreMapped : Prop :=
  ∀ (p : Params) (a : Addr) (v : Byte),
    exec (.memRd a) (State.resetWith p) = .next { State.resetWith p with
      result := some (if a.toNat < 0x4000 then p.bootRom.read a.toNat
        else if a.toNat < 0x8000 then p.basicRom.read (a.toNat - 0x4000)
        else p.unmappedPage.read (a.toNat % 0x400)) } ∧
    exec (.memWr a v) (State.resetWith p) = .next (State.resetWith p)

/-- 60_exceptions.md R215 (D18; log 13): a launch is refused exactly when a component is missing, and a complete one
starts in the reset state of its parameters, also where these break the bounds of 00_scope.md R8 (the model's choice,
log 16). -/
def Obligations.LaunchIsRefusedExactlyWhenUnwired : Prop :=
  (∀ l : Launch, (∃ c, l.start = .refused (.unwired c)) ↔
    (l.video = none ∨ l.sound = none ∨ l.pageTable = false ∨ l.boot = none ∨ l.basic = none ∨ l.cart1 = none ∨
      l.cart2 = none ∨ l.ram = none ∨ l.unmapped = none)) ∧
  (∀ p : Params, Launch.start
      { video := some p.vdpState0, sound := some (p.initSndSel, p.initSndRegs), pageTable := true,
        boot := some p.bootRom, basic := some p.basicRom, cart1 := some (p.cart1Size, p.cart1Rom),
        cart2 := some (p.cart2Size, p.cart2Rom), ram := some p.initRam, unmapped := some p.unmappedPage,
        ctrl1 := p.ctrl1, ctrl2 := p.ctrl2 } = .next (State.resetWith p))

/-! ### The invariant and whole runs -/

/-- The reset state, under any sound parameters, meets the invariant (10_state.md R28, R30; 70_reset_and_hazards.md
R240; D2, D3), and so does the model's own reset state (log 6 to log 8). -/
def Obligations.ResetMeetsTheInvariant : Prop :=
  (∀ p : Params, p.sound → (State.resetWith p).Inv) ∧ State.reset.Inv

/-- Every step keeps the invariant (10_state.md R28, R30 to R33): the table stays Build(PortA8), every region stays in
canonical form and inside its size, no cartridge image shrinks below the least size. -/
def Obligations.StepKeepsTheInvariant : Prop :=
  ∀ s s' : State, s.Inv → step s = .next s' → s'.Inv

/-- 10_state.md R33 (derived there) over whole runs: a RAM byte keeps its value through any number of steps, remaps among
them, as long as none of the transactions those steps take is a memory write to its address. What stays pending after
the run may write it. -/
def Obligations.RamByteIsKeptUntilWritten : Prop :=
  ∀ (k : Nat) (s s' : State) (off : Nat), s.Inv → Host.Core.run Sys2Proof.core k s = .next s' →
    (∀ t, BusEvent.transaction t ∈ s.bus.take k → ∀ (a : Addr) (v : Byte), decode t = .memWr a v → a.toNat ≠ off) →
    s'.byteAt .ram off = s.byteAt .ram off

/-- 20_memory.md R65 for RAM: with RAM mapped at `a`, a write of `v` to `a`, then any events that write nothing to `a`
(remaps away from RAM and back among them), then a read of `a` while RAM is mapped there again, returns `v`. -/
def Obligations.RamReadReturnsTheMostRecentWrite : Prop :=
  ∀ (s s1 s2 : State) (a : Addr) (v : Byte) (tw tr : Transaction) (between rest : List BusEvent),
    s.Inv → s.fault = none →
    s.bus = .transaction tw :: (between ++ .transaction tr :: rest) →
    decode tw = .memWr a v → decode tr = .memRd a →
    (∀ t, BusEvent.transaction t ∈ between → ∀ w, decode t ≠ .memWr a w) →
    (s.portA8.toNat >>> (2 * (a.toNat / 0x4000))) &&& 3 = 3 →
    s.runsTo (between.length + 1) s1 →
    (s1.portA8.toNat >>> (2 * (a.toNat / 0x4000))) &&& 3 = 3 →
    step s1 = .next s2 →
    s2.result = some v ∧ s2.bus = rest

/-- 42_port_writes.md R134, R135 and 10_state.md R35 (D8, D11): the controller bytes reach the rest of the state only
through the multiplex. But for OUT_SND_WRITE with register 0xF selected, exec gives the same outcome whatever CTRL1 and
CTRL2 hold. -/
def Obligations.ControllerBytesReachOnlyTheMultiplex : Prop :=
  ∀ (i : Instr) (s : State) (x y : Byte), ((∀ h v, i ≠ .outSndWrite h v) ∨ s.sndSel ≠ 0xF#4) →
    ∃ s', exec i s = .next s' ∧ exec i { s with ctrl1 := x, ctrl2 := y } = .next { s' with ctrl1 := x, ctrl2 := y }

/-- 30_encoding.md R95 (D19; the sound registers 0xE and 0xF and the functions of the others are D8 and log 10, the
controller bytes D11, the port's upper bits and JOYSEL's operand log 14) and 70_reset_and_hazards.md R252, with the
source's property W5: what each pseudo-transaction leaves, as the run of its expansion, for every operand, and that it
leaves everything else as it was. `r.extractLsb' 0 4` is `r[3:0]`. -/
def Obligations.PseudoTransactionsDoWhatTheySay : Prop :=
  (∀ (s : State) (v : Byte) (rest : List BusEvent), s.fault = none →
    s.bus = issue (expandPseudo (.setMap v)) ++ rest →
    s.runsTo 1 { s with bus := rest, result := none, portA8 := v, pt := build v }) ∧
  (∀ (s : State) (r : Byte) (rest : List BusEvent), s.fault = none →
    s.bus = issue (expandPseudo (.sndSel r)) ++ rest →
    s.runsTo 1 { s with bus := rest, result := none, sndSel := r.extractLsb' 0 4 }) ∧
  (∀ (s : State) (r v : Byte) (rest : List BusEvent), s.fault = none →
    s.bus = issue (expandPseudo (.sndWr r v)) ++ rest →
    ∃ s', s.runsTo 2 s' ∧
      s' = { s with bus := rest, result := none, sndSel := r.extractLsb' 0 4, sndReg := s'.sndReg } ∧
      (r.extractLsb' 0 4 = 0xF#4 → s'.soundReg 0xF#4 = v ∧
        s'.soundReg 0xE#4 = (if v.getLsbD 6 then s.ctrl2 else s.ctrl1) ∧
        ∀ q, q ≠ 0xE#4 → q ≠ 0xF#4 → s'.soundReg q = s.soundReg q) ∧
      (r.extractLsb' 0 4 = 0xE#4 → s'.soundReg 0xE#4 = v ∧ ∀ q, q ≠ 0xE#4 → s'.soundReg q = s.soundReg q) ∧
      (r.extractLsb' 0 4 ≠ 0xE#4 → r.extractLsb' 0 4 ≠ 0xF#4 →
        s'.soundReg (r.extractLsb' 0 4) = Config.sndRegWrite (r.extractLsb' 0 4) v ∧
        ∀ q, q ≠ r.extractLsb' 0 4 → s'.soundReg q = s.soundReg q)) ∧
  (∀ (s : State) (r : Byte) (rest : List BusEvent), s.fault = none →
    s.bus = issue (expandPseudo (.sndRd r)) ++ rest →
    (r.extractLsb' 0 4 = 0xE#4 ∨ r.extractLsb' 0 4 = 0xF#4 →
      s.runsTo 2 { s with
        bus := rest, sndSel := r.extractLsb' 0 4, result := some (s.soundReg (r.extractLsb' 0 4)) }) ∧
    (r.extractLsb' 0 4 ≠ 0xE#4 → r.extractLsb' 0 4 ≠ 0xF#4 →
      s.runsTo 2 { s with
        bus := rest, sndSel := r.extractLsb' 0 4
        result := some (Config.sndRegRead (r.extractLsb' 0 4) (s.soundReg (r.extractLsb' 0 4))) })) ∧
  (∀ (s : State) (v : Byte) (rest : List BusEvent), s.fault = none →
    s.bus = issue (expandPseudo (.joySel v)) ++ rest →
    ∃ s', s.runsTo 2 s' ∧
      s' = { s with bus := rest, result := none, sndSel := 0xF#4, sndReg := s'.sndReg } ∧
      s'.soundReg 0xF#4 = v ∧ s'.soundReg 0xE#4 = (if v.getLsbD 6 then s.ctrl2 else s.ctrl1) ∧
      ∀ q, q ≠ 0xE#4 → q ≠ 0xF#4 → s'.soundReg q = s.soundReg q)
end

