-- ==== Sys2Proof/Laws/Decode.lean ====
section
/-! SUPPORT. The parts of a port and of a selector word, and what a selector of each space and direction decodes to. -/

namespace Sys2Proof

@[simp] theorem decodedPort_portOf (h p : Byte) : decodedPort (portOf h p) = p := by
  refine BitVec.eq_of_getLsbD_eq fun i hi => ?_
  simp only [decodedPort, portOf, BitVec.getLsbD_extractLsb', hi, decide_true, Bool.true_and, Nat.zero_add]
  rw [BitVec.getLsbD_append, if_pos hi]

@[simp] theorem upperPort_portOf (h p : Byte) : upperPort (portOf h p) = h := by
  refine BitVec.eq_of_getLsbD_eq fun i hi => ?_
  simp only [upperPort, portOf, BitVec.getLsbD_extractLsb', hi, decide_true, Bool.true_and]
  rw [BitVec.getLsbD_append, if_neg (by omega), Nat.add_sub_cancel_left]

/-- A port is its upper byte and its decoded port. -/
theorem portOf_parts (port : Port) : portOf (upperPort port) (decodedPort port) = port := by
  refine BitVec.eq_of_getLsbD_eq fun i hi => ?_
  unfold portOf
  rw [BitVec.getLsbD_append]
  split
  · next h => simp [decodedPort, h]
  · next h =>
    have : i - 8 < 8 ∧ 8 + (i - 8) = i := by omega
    simp [upperPort, this]

@[simp] theorem selectorOf_low (d : BitVec 2) (low : BitVec 16) : (selectorOf d low).extractLsb' 0 16 = low := by
  refine BitVec.eq_of_getLsbD_eq fun i hi => ?_
  simp only [selectorOf, BitVec.getLsbD_extractLsb', hi, decide_true, Bool.true_and, Nat.zero_add]
  rw [BitVec.getLsbD_append, if_pos hi]

@[simp] theorem selectorOf_high (d : BitVec 2) (low : BitVec 16) : (selectorOf d low).extractLsb' 16 2 = d := by
  refine BitVec.eq_of_getLsbD_eq fun i hi => ?_
  simp only [selectorOf, BitVec.getLsbD_extractLsb', hi, decide_true, Bool.true_and]
  rw [BitVec.getLsbD_append, if_neg (by omega), Nat.add_sub_cancel_left]

theorem selectorOf_space (d : BitVec 2) (low : BitVec 16) : (selectorOf d low).getLsbD 17 = d.getLsbD 1 := by
  unfold selectorOf
  rw [BitVec.getLsbD_append, if_neg (by decide)]

theorem selectorOf_direction (d : BitVec 2) (low : BitVec 16) : (selectorOf d low).getLsbD 16 = d.getLsbD 0 := by
  unfold selectorOf
  rw [BitVec.getLsbD_append, if_neg (by decide)]

/-- A selector word is its space and direction bits and its low sixteen bits. -/
theorem selectorOf_parts (sel : Selector) : selectorOf (sel.extractLsb' 16 2) (sel.extractLsb' 0 16) = sel := by
  refine BitVec.eq_of_getLsbD_eq fun i hi => ?_
  unfold selectorOf
  rw [BitVec.getLsbD_append]
  split
  · next h => simp [h]
  · next h =>
    have : i - 16 < 2 ∧ 16 + (i - 16) = i := by omega
    simp [this]

/-- An I/O read decodes by the read table (30_encoding.md R85). -/
@[simp] theorem decode_read (port : Port) (v : Byte) : decode ⟨selectorOf 0b00#2 port, v⟩ = decodeRead port := by
  simp only [decode, selectorOf_space, selectorOf_direction, selectorOf_low]; rfl

/-- An I/O write decodes by the write table (30_encoding.md R86). -/
@[simp] theorem decode_write (port : Port) (v : Byte) : decode ⟨selectorOf 0b01#2 port, v⟩ = decodeWrite port v := by
  simp only [decode, selectorOf_space, selectorOf_direction, selectorOf_low]; rfl

@[simp] theorem decode_memRd (addr : Addr) (v : Byte) : decode ⟨selectorOf 0b10#2 addr, v⟩ = .memRd addr := by
  simp only [decode, selectorOf_space, selectorOf_direction, selectorOf_low]; rfl

@[simp] theorem decode_memWr (addr : Addr) (v : Byte) : decode ⟨selectorOf 0b11#2 addr, v⟩ = .memWr addr v := by
  simp only [decode, selectorOf_space, selectorOf_direction, selectorOf_low]; rfl

/-- Every transaction is of one of the four kinds (30_encoding.md R80). -/
theorem transaction_kinds (t : Transaction) : ∃ low : BitVec 16,
    t = ⟨selectorOf 0b00#2 low, t.data⟩ ∨ t = ⟨selectorOf 0b01#2 low, t.data⟩ ∨
    t = ⟨selectorOf 0b10#2 low, t.data⟩ ∨ t = ⟨selectorOf 0b11#2 low, t.data⟩ := by
  obtain ⟨sel, v⟩ := t
  refine ⟨sel.extractLsb' 0 16, ?_⟩
  have hd : ∀ d : BitVec 2, d = 0b00#2 ∨ d = 0b01#2 ∨ d = 0b10#2 ∨ d = 0b11#2 := by decide
  rcases hd (sel.extractLsb' 16 2) with h | h | h | h <;> rw [← h, selectorOf_parts] <;> simp

/-- A selector under the table's port mask 0x300FF: its upper port bits are cleared. -/
theorem selectorOf_and_portMask (d : BitVec 2) (port : Port) :
    selectorOf d port &&& 0x300FF = selectorOf d (portOf 0#8 (decodedPort port)) := by
  have hmask : (0x300FF : Selector) = (0b11#2 ++ (0#8 ++ 0xFF#8)) := by decide
  rw [hmask]
  conv => lhs; rw [← portOf_parts port]
  unfold selectorOf portOf
  rw [BitVec.and_append, BitVec.and_append]
  have h3 : d &&& 0b11#2 = d := by revert d; decide
  rw [h3, BitVec.and_zero]
  congr 2
  exact BitVec.and_allOnes

/-- A selector under the table's space mask 0x30000: its low bits are cleared. -/
theorem selectorOf_and_spaceMask (d : BitVec 2) (low : BitVec 16) :
    selectorOf d low &&& 0x30000 = selectorOf d 0#16 := by
  have hmask : (0x30000 : Selector) = (0b11#2 ++ 0#16) := by decide
  rw [hmask]
  unfold selectorOf
  rw [BitVec.and_append, BitVec.and_zero]
  have h3 : d &&& 0b11#2 = d := by revert d; decide
  rw [h3]

end Sys2Proof
end

