-- ==== Sys2Proof/Laws/Mapper.lean ====
section
/-! SUPPORT. The page table Build forms, entry by entry, and the parts of an address as numbers. -/

namespace Sys2Proof.Machine

@[simp] theorem build_getElem (c : Byte) (p : Fin 64) : (build c)[p] = buildEntry c p := by
  simp [build]

theorem selectField_toNat (c : Byte) (q : Fin 4) : (selectField c q).toNat = c.toNat >>> (2 * q.val) % 4 := by
  simp [selectField]

theorem pageIndex_val (a : Addr) : (pageIndex a).val = a.toNat / 0x400 := by
  have := a.isLt
  have h : (pageIndex a).val = (a.extractLsb' 10 6).toNat := rfl
  rw [h, BitVec.extractLsb'_toNat, Nat.shiftRight_eq_div_pow]
  omega

theorem pageOffset_eq (a : Addr) : pageOffset a = a.toNat % 0x400 := by
  simp [pageOffset]

theorem pageOffset_lt (a : Addr) : pageOffset a < 0x400 := (a.extractLsb' 0 10).isLt

/-- The quadrant of an address is the quadrant of its page. -/
theorem quadrantOfPage_pageIndex (a : Addr) : (quadrantOfPage (pageIndex a)).val = a.toNat / 0x4000 := by
  simp only [quadrantOfPage, pageIndex_val]; omega

/-- An entry's write-mask is 0xFF when its region is RAM and 0x00 otherwise (43_bank_mapper.md R164). -/
theorem source_wmask (q : Fin 4) (f : BitVec 2) :
    (source q f).wmask = if (source q f).region = .ram then 0xFF else 0x00 := by
  revert q f; decide

theorem windowOf_region (e : Entry) (i : Nat) : (windowOf e i).region = e.region := by
  unfold windowOf; split <;> simp [*]

end Sys2Proof.Machine
end

