-- ==== Sys2Proof/Laws/State.lean ====
section
/-! SUPPORT. One lemma per field per update of State, so that no proof unfolds a record update. -/

namespace Sys2Proof.Machine

@[simp] theorem State.withPortA8_portA8 (s : State) (v : Byte) : (s.withPortA8 v).portA8 = v := rfl
@[simp] theorem State.withPortA8_pt (s : State) (v : Byte) : (s.withPortA8 v).pt = s.pt := rfl
@[simp] theorem State.withPortA8_boot (s : State) (v : Byte) : (s.withPortA8 v).boot = s.boot := rfl
@[simp] theorem State.withPortA8_basic (s : State) (v : Byte) : (s.withPortA8 v).basic = s.basic := rfl
@[simp] theorem State.withPortA8_cart1 (s : State) (v : Byte) : (s.withPortA8 v).cart1 = s.cart1 := rfl
@[simp] theorem State.withPortA8_cart2 (s : State) (v : Byte) : (s.withPortA8 v).cart2 = s.cart2 := rfl
@[simp] theorem State.withPortA8_ram (s : State) (v : Byte) : (s.withPortA8 v).ram = s.ram := rfl
@[simp] theorem State.withPortA8_unmapped (s : State) (v : Byte) : (s.withPortA8 v).unmapped = s.unmapped := rfl
@[simp] theorem State.withPortA8_cart1Size (s : State) (v : Byte) : (s.withPortA8 v).cart1Size = s.cart1Size := rfl
@[simp] theorem State.withPortA8_cart2Size (s : State) (v : Byte) : (s.withPortA8 v).cart2Size = s.cart2Size := rfl
@[simp] theorem State.withPortA8_sndSel (s : State) (v : Byte) : (s.withPortA8 v).sndSel = s.sndSel := rfl
@[simp] theorem State.withPortA8_sndReg (s : State) (v : Byte) : (s.withPortA8 v).sndReg = s.sndReg := rfl
@[simp] theorem State.withPortA8_vdp (s : State) (v : Byte) : (s.withPortA8 v).vdp = s.vdp := rfl
@[simp] theorem State.withPortA8_ctrl1 (s : State) (v : Byte) : (s.withPortA8 v).ctrl1 = s.ctrl1 := rfl
@[simp] theorem State.withPortA8_ctrl2 (s : State) (v : Byte) : (s.withPortA8 v).ctrl2 = s.ctrl2 := rfl
@[simp] theorem State.withPortA8_fault (s : State) (v : Byte) : (s.withPortA8 v).fault = s.fault := rfl
@[simp] theorem State.withPortA8_bus (s : State) (v : Byte) : (s.withPortA8 v).bus = s.bus := rfl
@[simp] theorem State.withPortA8_result (s : State) (v : Byte) : (s.withPortA8 v).result = s.result := rfl

@[simp] theorem State.withPt_portA8 (s : State) (t : PageTable) : (s.withPt t).portA8 = s.portA8 := rfl
@[simp] theorem State.withPt_pt (s : State) (t : PageTable) : (s.withPt t).pt = t := rfl
@[simp] theorem State.withPt_boot (s : State) (t : PageTable) : (s.withPt t).boot = s.boot := rfl
@[simp] theorem State.withPt_basic (s : State) (t : PageTable) : (s.withPt t).basic = s.basic := rfl
@[simp] theorem State.withPt_cart1 (s : State) (t : PageTable) : (s.withPt t).cart1 = s.cart1 := rfl
@[simp] theorem State.withPt_cart2 (s : State) (t : PageTable) : (s.withPt t).cart2 = s.cart2 := rfl
@[simp] theorem State.withPt_ram (s : State) (t : PageTable) : (s.withPt t).ram = s.ram := rfl
@[simp] theorem State.withPt_unmapped (s : State) (t : PageTable) : (s.withPt t).unmapped = s.unmapped := rfl
@[simp] theorem State.withPt_cart1Size (s : State) (t : PageTable) : (s.withPt t).cart1Size = s.cart1Size := rfl
@[simp] theorem State.withPt_cart2Size (s : State) (t : PageTable) : (s.withPt t).cart2Size = s.cart2Size := rfl
@[simp] theorem State.withPt_sndSel (s : State) (t : PageTable) : (s.withPt t).sndSel = s.sndSel := rfl
@[simp] theorem State.withPt_sndReg (s : State) (t : PageTable) : (s.withPt t).sndReg = s.sndReg := rfl
@[simp] theorem State.withPt_vdp (s : State) (t : PageTable) : (s.withPt t).vdp = s.vdp := rfl
@[simp] theorem State.withPt_ctrl1 (s : State) (t : PageTable) : (s.withPt t).ctrl1 = s.ctrl1 := rfl
@[simp] theorem State.withPt_ctrl2 (s : State) (t : PageTable) : (s.withPt t).ctrl2 = s.ctrl2 := rfl
@[simp] theorem State.withPt_fault (s : State) (t : PageTable) : (s.withPt t).fault = s.fault := rfl
@[simp] theorem State.withPt_bus (s : State) (t : PageTable) : (s.withPt t).bus = s.bus := rfl
@[simp] theorem State.withPt_result (s : State) (t : PageTable) : (s.withPt t).result = s.result := rfl

@[simp] theorem State.withRam_portA8 (s : State) (m : Memory) : (s.withRam m).portA8 = s.portA8 := rfl
@[simp] theorem State.withRam_pt (s : State) (m : Memory) : (s.withRam m).pt = s.pt := rfl
@[simp] theorem State.withRam_boot (s : State) (m : Memory) : (s.withRam m).boot = s.boot := rfl
@[simp] theorem State.withRam_basic (s : State) (m : Memory) : (s.withRam m).basic = s.basic := rfl
@[simp] theorem State.withRam_cart1 (s : State) (m : Memory) : (s.withRam m).cart1 = s.cart1 := rfl
@[simp] theorem State.withRam_cart2 (s : State) (m : Memory) : (s.withRam m).cart2 = s.cart2 := rfl
@[simp] theorem State.withRam_ram (s : State) (m : Memory) : (s.withRam m).ram = m := rfl
@[simp] theorem State.withRam_unmapped (s : State) (m : Memory) : (s.withRam m).unmapped = s.unmapped := rfl
@[simp] theorem State.withRam_cart1Size (s : State) (m : Memory) : (s.withRam m).cart1Size = s.cart1Size := rfl
@[simp] theorem State.withRam_cart2Size (s : State) (m : Memory) : (s.withRam m).cart2Size = s.cart2Size := rfl
@[simp] theorem State.withRam_sndSel (s : State) (m : Memory) : (s.withRam m).sndSel = s.sndSel := rfl
@[simp] theorem State.withRam_sndReg (s : State) (m : Memory) : (s.withRam m).sndReg = s.sndReg := rfl
@[simp] theorem State.withRam_vdp (s : State) (m : Memory) : (s.withRam m).vdp = s.vdp := rfl
@[simp] theorem State.withRam_ctrl1 (s : State) (m : Memory) : (s.withRam m).ctrl1 = s.ctrl1 := rfl
@[simp] theorem State.withRam_ctrl2 (s : State) (m : Memory) : (s.withRam m).ctrl2 = s.ctrl2 := rfl
@[simp] theorem State.withRam_fault (s : State) (m : Memory) : (s.withRam m).fault = s.fault := rfl
@[simp] theorem State.withRam_bus (s : State) (m : Memory) : (s.withRam m).bus = s.bus := rfl
@[simp] theorem State.withRam_result (s : State) (m : Memory) : (s.withRam m).result = s.result := rfl

@[simp] theorem State.withSndSel_portA8 (s : State) (r : BitVec 4) : (s.withSndSel r).portA8 = s.portA8 := rfl
@[simp] theorem State.withSndSel_pt (s : State) (r : BitVec 4) : (s.withSndSel r).pt = s.pt := rfl
@[simp] theorem State.withSndSel_boot (s : State) (r : BitVec 4) : (s.withSndSel r).boot = s.boot := rfl
@[simp] theorem State.withSndSel_basic (s : State) (r : BitVec 4) : (s.withSndSel r).basic = s.basic := rfl
@[simp] theorem State.withSndSel_cart1 (s : State) (r : BitVec 4) : (s.withSndSel r).cart1 = s.cart1 := rfl
@[simp] theorem State.withSndSel_cart2 (s : State) (r : BitVec 4) : (s.withSndSel r).cart2 = s.cart2 := rfl
@[simp] theorem State.withSndSel_ram (s : State) (r : BitVec 4) : (s.withSndSel r).ram = s.ram := rfl
@[simp] theorem State.withSndSel_unmapped (s : State) (r : BitVec 4) : (s.withSndSel r).unmapped = s.unmapped := rfl
@[simp] theorem State.withSndSel_cart1Size (s : State) (r : BitVec 4) : (s.withSndSel r).cart1Size = s.cart1Size := rfl
@[simp] theorem State.withSndSel_cart2Size (s : State) (r : BitVec 4) : (s.withSndSel r).cart2Size = s.cart2Size := rfl
@[simp] theorem State.withSndSel_sndSel (s : State) (r : BitVec 4) : (s.withSndSel r).sndSel = r := rfl
@[simp] theorem State.withSndSel_sndReg (s : State) (r : BitVec 4) : (s.withSndSel r).sndReg = s.sndReg := rfl
@[simp] theorem State.withSndSel_vdp (s : State) (r : BitVec 4) : (s.withSndSel r).vdp = s.vdp := rfl
@[simp] theorem State.withSndSel_ctrl1 (s : State) (r : BitVec 4) : (s.withSndSel r).ctrl1 = s.ctrl1 := rfl
@[simp] theorem State.withSndSel_ctrl2 (s : State) (r : BitVec 4) : (s.withSndSel r).ctrl2 = s.ctrl2 := rfl
@[simp] theorem State.withSndSel_fault (s : State) (r : BitVec 4) : (s.withSndSel r).fault = s.fault := rfl
@[simp] theorem State.withSndSel_bus (s : State) (r : BitVec 4) : (s.withSndSel r).bus = s.bus := rfl
@[simp] theorem State.withSndSel_result (s : State) (r : BitVec 4) : (s.withSndSel r).result = s.result := rfl

@[simp] theorem State.withSndReg_portA8 (s : State) (r : BitVec 4) (v : Byte) : (s.withSndReg r v).portA8 = s.portA8 := rfl
@[simp] theorem State.withSndReg_pt (s : State) (r : BitVec 4) (v : Byte) : (s.withSndReg r v).pt = s.pt := rfl
@[simp] theorem State.withSndReg_boot (s : State) (r : BitVec 4) (v : Byte) : (s.withSndReg r v).boot = s.boot := rfl
@[simp] theorem State.withSndReg_basic (s : State) (r : BitVec 4) (v : Byte) : (s.withSndReg r v).basic = s.basic := rfl
@[simp] theorem State.withSndReg_cart1 (s : State) (r : BitVec 4) (v : Byte) : (s.withSndReg r v).cart1 = s.cart1 := rfl
@[simp] theorem State.withSndReg_cart2 (s : State) (r : BitVec 4) (v : Byte) : (s.withSndReg r v).cart2 = s.cart2 := rfl
@[simp] theorem State.withSndReg_ram (s : State) (r : BitVec 4) (v : Byte) : (s.withSndReg r v).ram = s.ram := rfl
@[simp] theorem State.withSndReg_unmapped (s : State) (r : BitVec 4) (v : Byte) : (s.withSndReg r v).unmapped = s.unmapped := rfl
@[simp] theorem State.withSndReg_cart1Size (s : State) (r : BitVec 4) (v : Byte) : (s.withSndReg r v).cart1Size = s.cart1Size := rfl
@[simp] theorem State.withSndReg_cart2Size (s : State) (r : BitVec 4) (v : Byte) : (s.withSndReg r v).cart2Size = s.cart2Size := rfl
@[simp] theorem State.withSndReg_sndSel (s : State) (r : BitVec 4) (v : Byte) : (s.withSndReg r v).sndSel = s.sndSel := rfl
@[simp] theorem State.withSndReg_sndReg (s : State) (r : BitVec 4) (v : Byte) : (s.withSndReg r v).sndReg = s.sndReg.set r.toNat v r.isLt := rfl
@[simp] theorem State.withSndReg_vdp (s : State) (r : BitVec 4) (v : Byte) : (s.withSndReg r v).vdp = s.vdp := rfl
@[simp] theorem State.withSndReg_ctrl1 (s : State) (r : BitVec 4) (v : Byte) : (s.withSndReg r v).ctrl1 = s.ctrl1 := rfl
@[simp] theorem State.withSndReg_ctrl2 (s : State) (r : BitVec 4) (v : Byte) : (s.withSndReg r v).ctrl2 = s.ctrl2 := rfl
@[simp] theorem State.withSndReg_fault (s : State) (r : BitVec 4) (v : Byte) : (s.withSndReg r v).fault = s.fault := rfl
@[simp] theorem State.withSndReg_bus (s : State) (r : BitVec 4) (v : Byte) : (s.withSndReg r v).bus = s.bus := rfl
@[simp] theorem State.withSndReg_result (s : State) (r : BitVec 4) (v : Byte) : (s.withSndReg r v).result = s.result := rfl

@[simp] theorem State.withVdp_portA8 (s : State) (u : VdpState) : (s.withVdp u).portA8 = s.portA8 := rfl
@[simp] theorem State.withVdp_pt (s : State) (u : VdpState) : (s.withVdp u).pt = s.pt := rfl
@[simp] theorem State.withVdp_boot (s : State) (u : VdpState) : (s.withVdp u).boot = s.boot := rfl
@[simp] theorem State.withVdp_basic (s : State) (u : VdpState) : (s.withVdp u).basic = s.basic := rfl
@[simp] theorem State.withVdp_cart1 (s : State) (u : VdpState) : (s.withVdp u).cart1 = s.cart1 := rfl
@[simp] theorem State.withVdp_cart2 (s : State) (u : VdpState) : (s.withVdp u).cart2 = s.cart2 := rfl
@[simp] theorem State.withVdp_ram (s : State) (u : VdpState) : (s.withVdp u).ram = s.ram := rfl
@[simp] theorem State.withVdp_unmapped (s : State) (u : VdpState) : (s.withVdp u).unmapped = s.unmapped := rfl
@[simp] theorem State.withVdp_cart1Size (s : State) (u : VdpState) : (s.withVdp u).cart1Size = s.cart1Size := rfl
@[simp] theorem State.withVdp_cart2Size (s : State) (u : VdpState) : (s.withVdp u).cart2Size = s.cart2Size := rfl
@[simp] theorem State.withVdp_sndSel (s : State) (u : VdpState) : (s.withVdp u).sndSel = s.sndSel := rfl
@[simp] theorem State.withVdp_sndReg (s : State) (u : VdpState) : (s.withVdp u).sndReg = s.sndReg := rfl
@[simp] theorem State.withVdp_vdp (s : State) (u : VdpState) : (s.withVdp u).vdp = u := rfl
@[simp] theorem State.withVdp_ctrl1 (s : State) (u : VdpState) : (s.withVdp u).ctrl1 = s.ctrl1 := rfl
@[simp] theorem State.withVdp_ctrl2 (s : State) (u : VdpState) : (s.withVdp u).ctrl2 = s.ctrl2 := rfl
@[simp] theorem State.withVdp_fault (s : State) (u : VdpState) : (s.withVdp u).fault = s.fault := rfl
@[simp] theorem State.withVdp_bus (s : State) (u : VdpState) : (s.withVdp u).bus = s.bus := rfl
@[simp] theorem State.withVdp_result (s : State) (u : VdpState) : (s.withVdp u).result = s.result := rfl

@[simp] theorem State.withCtrl1_portA8 (s : State) (v : Byte) : (s.withCtrl1 v).portA8 = s.portA8 := rfl
@[simp] theorem State.withCtrl1_pt (s : State) (v : Byte) : (s.withCtrl1 v).pt = s.pt := rfl
@[simp] theorem State.withCtrl1_boot (s : State) (v : Byte) : (s.withCtrl1 v).boot = s.boot := rfl
@[simp] theorem State.withCtrl1_basic (s : State) (v : Byte) : (s.withCtrl1 v).basic = s.basic := rfl
@[simp] theorem State.withCtrl1_cart1 (s : State) (v : Byte) : (s.withCtrl1 v).cart1 = s.cart1 := rfl
@[simp] theorem State.withCtrl1_cart2 (s : State) (v : Byte) : (s.withCtrl1 v).cart2 = s.cart2 := rfl
@[simp] theorem State.withCtrl1_ram (s : State) (v : Byte) : (s.withCtrl1 v).ram = s.ram := rfl
@[simp] theorem State.withCtrl1_unmapped (s : State) (v : Byte) : (s.withCtrl1 v).unmapped = s.unmapped := rfl
@[simp] theorem State.withCtrl1_cart1Size (s : State) (v : Byte) : (s.withCtrl1 v).cart1Size = s.cart1Size := rfl
@[simp] theorem State.withCtrl1_cart2Size (s : State) (v : Byte) : (s.withCtrl1 v).cart2Size = s.cart2Size := rfl
@[simp] theorem State.withCtrl1_sndSel (s : State) (v : Byte) : (s.withCtrl1 v).sndSel = s.sndSel := rfl
@[simp] theorem State.withCtrl1_sndReg (s : State) (v : Byte) : (s.withCtrl1 v).sndReg = s.sndReg := rfl
@[simp] theorem State.withCtrl1_vdp (s : State) (v : Byte) : (s.withCtrl1 v).vdp = s.vdp := rfl
@[simp] theorem State.withCtrl1_ctrl1 (s : State) (v : Byte) : (s.withCtrl1 v).ctrl1 = v := rfl
@[simp] theorem State.withCtrl1_ctrl2 (s : State) (v : Byte) : (s.withCtrl1 v).ctrl2 = s.ctrl2 := rfl
@[simp] theorem State.withCtrl1_fault (s : State) (v : Byte) : (s.withCtrl1 v).fault = s.fault := rfl
@[simp] theorem State.withCtrl1_bus (s : State) (v : Byte) : (s.withCtrl1 v).bus = s.bus := rfl
@[simp] theorem State.withCtrl1_result (s : State) (v : Byte) : (s.withCtrl1 v).result = s.result := rfl

@[simp] theorem State.withCtrl2_portA8 (s : State) (v : Byte) : (s.withCtrl2 v).portA8 = s.portA8 := rfl
@[simp] theorem State.withCtrl2_pt (s : State) (v : Byte) : (s.withCtrl2 v).pt = s.pt := rfl
@[simp] theorem State.withCtrl2_boot (s : State) (v : Byte) : (s.withCtrl2 v).boot = s.boot := rfl
@[simp] theorem State.withCtrl2_basic (s : State) (v : Byte) : (s.withCtrl2 v).basic = s.basic := rfl
@[simp] theorem State.withCtrl2_cart1 (s : State) (v : Byte) : (s.withCtrl2 v).cart1 = s.cart1 := rfl
@[simp] theorem State.withCtrl2_cart2 (s : State) (v : Byte) : (s.withCtrl2 v).cart2 = s.cart2 := rfl
@[simp] theorem State.withCtrl2_ram (s : State) (v : Byte) : (s.withCtrl2 v).ram = s.ram := rfl
@[simp] theorem State.withCtrl2_unmapped (s : State) (v : Byte) : (s.withCtrl2 v).unmapped = s.unmapped := rfl
@[simp] theorem State.withCtrl2_cart1Size (s : State) (v : Byte) : (s.withCtrl2 v).cart1Size = s.cart1Size := rfl
@[simp] theorem State.withCtrl2_cart2Size (s : State) (v : Byte) : (s.withCtrl2 v).cart2Size = s.cart2Size := rfl
@[simp] theorem State.withCtrl2_sndSel (s : State) (v : Byte) : (s.withCtrl2 v).sndSel = s.sndSel := rfl
@[simp] theorem State.withCtrl2_sndReg (s : State) (v : Byte) : (s.withCtrl2 v).sndReg = s.sndReg := rfl
@[simp] theorem State.withCtrl2_vdp (s : State) (v : Byte) : (s.withCtrl2 v).vdp = s.vdp := rfl
@[simp] theorem State.withCtrl2_ctrl1 (s : State) (v : Byte) : (s.withCtrl2 v).ctrl1 = s.ctrl1 := rfl
@[simp] theorem State.withCtrl2_ctrl2 (s : State) (v : Byte) : (s.withCtrl2 v).ctrl2 = v := rfl
@[simp] theorem State.withCtrl2_fault (s : State) (v : Byte) : (s.withCtrl2 v).fault = s.fault := rfl
@[simp] theorem State.withCtrl2_bus (s : State) (v : Byte) : (s.withCtrl2 v).bus = s.bus := rfl
@[simp] theorem State.withCtrl2_result (s : State) (v : Byte) : (s.withCtrl2 v).result = s.result := rfl

@[simp] theorem State.withFault_portA8 (s : State) (f : Option Fault) : (s.withFault f).portA8 = s.portA8 := rfl
@[simp] theorem State.withFault_pt (s : State) (f : Option Fault) : (s.withFault f).pt = s.pt := rfl
@[simp] theorem State.withFault_boot (s : State) (f : Option Fault) : (s.withFault f).boot = s.boot := rfl
@[simp] theorem State.withFault_basic (s : State) (f : Option Fault) : (s.withFault f).basic = s.basic := rfl
@[simp] theorem State.withFault_cart1 (s : State) (f : Option Fault) : (s.withFault f).cart1 = s.cart1 := rfl
@[simp] theorem State.withFault_cart2 (s : State) (f : Option Fault) : (s.withFault f).cart2 = s.cart2 := rfl
@[simp] theorem State.withFault_ram (s : State) (f : Option Fault) : (s.withFault f).ram = s.ram := rfl
@[simp] theorem State.withFault_unmapped (s : State) (f : Option Fault) : (s.withFault f).unmapped = s.unmapped := rfl
@[simp] theorem State.withFault_cart1Size (s : State) (f : Option Fault) : (s.withFault f).cart1Size = s.cart1Size := rfl
@[simp] theorem State.withFault_cart2Size (s : State) (f : Option Fault) : (s.withFault f).cart2Size = s.cart2Size := rfl
@[simp] theorem State.withFault_sndSel (s : State) (f : Option Fault) : (s.withFault f).sndSel = s.sndSel := rfl
@[simp] theorem State.withFault_sndReg (s : State) (f : Option Fault) : (s.withFault f).sndReg = s.sndReg := rfl
@[simp] theorem State.withFault_vdp (s : State) (f : Option Fault) : (s.withFault f).vdp = s.vdp := rfl
@[simp] theorem State.withFault_ctrl1 (s : State) (f : Option Fault) : (s.withFault f).ctrl1 = s.ctrl1 := rfl
@[simp] theorem State.withFault_ctrl2 (s : State) (f : Option Fault) : (s.withFault f).ctrl2 = s.ctrl2 := rfl
@[simp] theorem State.withFault_fault (s : State) (f : Option Fault) : (s.withFault f).fault = f := rfl
@[simp] theorem State.withFault_bus (s : State) (f : Option Fault) : (s.withFault f).bus = s.bus := rfl
@[simp] theorem State.withFault_result (s : State) (f : Option Fault) : (s.withFault f).result = s.result := rfl

@[simp] theorem State.withBus_portA8 (s : State) (events : List BusEvent) : (s.withBus events).portA8 = s.portA8 := rfl
@[simp] theorem State.withBus_pt (s : State) (events : List BusEvent) : (s.withBus events).pt = s.pt := rfl
@[simp] theorem State.withBus_boot (s : State) (events : List BusEvent) : (s.withBus events).boot = s.boot := rfl
@[simp] theorem State.withBus_basic (s : State) (events : List BusEvent) : (s.withBus events).basic = s.basic := rfl
@[simp] theorem State.withBus_cart1 (s : State) (events : List BusEvent) : (s.withBus events).cart1 = s.cart1 := rfl
@[simp] theorem State.withBus_cart2 (s : State) (events : List BusEvent) : (s.withBus events).cart2 = s.cart2 := rfl
@[simp] theorem State.withBus_ram (s : State) (events : List BusEvent) : (s.withBus events).ram = s.ram := rfl
@[simp] theorem State.withBus_unmapped (s : State) (events : List BusEvent) : (s.withBus events).unmapped = s.unmapped := rfl
@[simp] theorem State.withBus_cart1Size (s : State) (events : List BusEvent) : (s.withBus events).cart1Size = s.cart1Size := rfl
@[simp] theorem State.withBus_cart2Size (s : State) (events : List BusEvent) : (s.withBus events).cart2Size = s.cart2Size := rfl
@[simp] theorem State.withBus_sndSel (s : State) (events : List BusEvent) : (s.withBus events).sndSel = s.sndSel := rfl
@[simp] theorem State.withBus_sndReg (s : State) (events : List BusEvent) : (s.withBus events).sndReg = s.sndReg := rfl
@[simp] theorem State.withBus_vdp (s : State) (events : List BusEvent) : (s.withBus events).vdp = s.vdp := rfl
@[simp] theorem State.withBus_ctrl1 (s : State) (events : List BusEvent) : (s.withBus events).ctrl1 = s.ctrl1 := rfl
@[simp] theorem State.withBus_ctrl2 (s : State) (events : List BusEvent) : (s.withBus events).ctrl2 = s.ctrl2 := rfl
@[simp] theorem State.withBus_fault (s : State) (events : List BusEvent) : (s.withBus events).fault = s.fault := rfl
@[simp] theorem State.withBus_bus (s : State) (events : List BusEvent) : (s.withBus events).bus = events := rfl
@[simp] theorem State.withBus_result (s : State) (events : List BusEvent) : (s.withBus events).result = s.result := rfl

@[simp] theorem State.withResult_portA8 (s : State) (b : Option Byte) : (s.withResult b).portA8 = s.portA8 := rfl
@[simp] theorem State.withResult_pt (s : State) (b : Option Byte) : (s.withResult b).pt = s.pt := rfl
@[simp] theorem State.withResult_boot (s : State) (b : Option Byte) : (s.withResult b).boot = s.boot := rfl
@[simp] theorem State.withResult_basic (s : State) (b : Option Byte) : (s.withResult b).basic = s.basic := rfl
@[simp] theorem State.withResult_cart1 (s : State) (b : Option Byte) : (s.withResult b).cart1 = s.cart1 := rfl
@[simp] theorem State.withResult_cart2 (s : State) (b : Option Byte) : (s.withResult b).cart2 = s.cart2 := rfl
@[simp] theorem State.withResult_ram (s : State) (b : Option Byte) : (s.withResult b).ram = s.ram := rfl
@[simp] theorem State.withResult_unmapped (s : State) (b : Option Byte) : (s.withResult b).unmapped = s.unmapped := rfl
@[simp] theorem State.withResult_cart1Size (s : State) (b : Option Byte) : (s.withResult b).cart1Size = s.cart1Size := rfl
@[simp] theorem State.withResult_cart2Size (s : State) (b : Option Byte) : (s.withResult b).cart2Size = s.cart2Size := rfl
@[simp] theorem State.withResult_sndSel (s : State) (b : Option Byte) : (s.withResult b).sndSel = s.sndSel := rfl
@[simp] theorem State.withResult_sndReg (s : State) (b : Option Byte) : (s.withResult b).sndReg = s.sndReg := rfl
@[simp] theorem State.withResult_vdp (s : State) (b : Option Byte) : (s.withResult b).vdp = s.vdp := rfl
@[simp] theorem State.withResult_ctrl1 (s : State) (b : Option Byte) : (s.withResult b).ctrl1 = s.ctrl1 := rfl
@[simp] theorem State.withResult_ctrl2 (s : State) (b : Option Byte) : (s.withResult b).ctrl2 = s.ctrl2 := rfl
@[simp] theorem State.withResult_fault (s : State) (b : Option Byte) : (s.withResult b).fault = s.fault := rfl
@[simp] theorem State.withResult_bus (s : State) (b : Option Byte) : (s.withResult b).bus = s.bus := rfl
@[simp] theorem State.withResult_result (s : State) (b : Option Byte) : (s.withResult b).result = b := rfl

/-! ### The state after reset, field by field (10_state.md R45) -/

@[simp] theorem State.resetWith_portA8 (p : Params) : (State.resetWith p).portA8 = initPortA8 := rfl
@[simp] theorem State.resetWith_pt (p : Params) : (State.resetWith p).pt = build initPortA8 := rfl
@[simp] theorem State.resetWith_boot (p : Params) : (State.resetWith p).boot = p.bootRom := rfl
@[simp] theorem State.resetWith_basic (p : Params) : (State.resetWith p).basic = p.basicRom := rfl
@[simp] theorem State.resetWith_cart1 (p : Params) : (State.resetWith p).cart1 = p.cart1Rom := rfl
@[simp] theorem State.resetWith_cart2 (p : Params) : (State.resetWith p).cart2 = p.cart2Rom := rfl
@[simp] theorem State.resetWith_ram (p : Params) : (State.resetWith p).ram = p.initRam := rfl
@[simp] theorem State.resetWith_unmapped (p : Params) : (State.resetWith p).unmapped = p.unmappedPage := rfl
@[simp] theorem State.resetWith_cart1Size (p : Params) : (State.resetWith p).cart1Size = p.cart1Size := rfl
@[simp] theorem State.resetWith_cart2Size (p : Params) : (State.resetWith p).cart2Size = p.cart2Size := rfl
@[simp] theorem State.resetWith_sndSel (p : Params) : (State.resetWith p).sndSel = p.initSndSel := rfl
@[simp] theorem State.resetWith_sndReg (p : Params) : (State.resetWith p).sndReg = p.initSndRegs := rfl
@[simp] theorem State.resetWith_vdp (p : Params) : (State.resetWith p).vdp = p.vdpState0 := rfl
@[simp] theorem State.resetWith_ctrl1 (p : Params) : (State.resetWith p).ctrl1 = p.ctrl1 := rfl
@[simp] theorem State.resetWith_ctrl2 (p : Params) : (State.resetWith p).ctrl2 = p.ctrl2 := rfl
@[simp] theorem State.resetWith_fault (p : Params) : (State.resetWith p).fault = none := rfl
@[simp] theorem State.resetWith_bus (p : Params) : (State.resetWith p).bus = [] := rfl
@[simp] theorem State.resetWith_result (p : Params) : (State.resetWith p).result = none := rfl

end Sys2Proof.Machine
end

