-- ==== Sys2Proof/Laws/Memory.lean ====
section
/-! SUPPORT. A region's contents: a read after a write, and that every operation keeps the canonical form. -/

namespace Sys2Proof.Machine

@[simp] theorem Memory.read_nil (off : Nat) : Memory.read [] off = Memory.unlisted := rfl

theorem Memory.read_cons (c : Host.Cell) (m : Memory) (off : Nat) :
    Memory.read (c :: m) off = if c.1 = off then c.2 else Memory.read m off := rfl

theorem Memory.read_erase_same (m : Memory) (off : Nat) : (m.erase off).read off = Memory.unlisted := by
  induction m with
  | nil => rfl
  | cons c m ih =>
    by_cases h : c.1 = off
    · simpa [Memory.erase, h] using ih
    · simpa [Memory.erase, h, Memory.read_cons] using ih

theorem Memory.read_erase_other {m : Memory} {off other : Nat} (hne : other ≠ off) :
    (m.erase off).read other = m.read other := by
  induction m with
  | nil => rfl
  | cons c m ih =>
    by_cases h : c.1 = off
    · have : c.1 ≠ other := fun e => hne (e.symm.trans h)
      simpa [Memory.erase, h, Memory.read_cons, this, hne.symm] using ih
    · by_cases ho : c.1 = other
      · simp [Memory.erase, Memory.read_cons, ho, hne]
      · simpa [Memory.erase, h, Memory.read_cons, ho] using ih

theorem Memory.read_insert_other {m : Memory} {off other : Nat} (v : Byte) (hne : other ≠ off) :
    (Memory.insert off v m).read other = m.read other := by
  induction m with
  | nil => simp [Memory.insert, Memory.read_cons, hne.symm]
  | cons c m ih =>
    unfold Memory.insert
    split
    · simp [Memory.read_cons, hne.symm]
    · simp [Memory.read_cons, ih]

theorem Memory.read_insert_same {m : Memory} {off : Nat} (v : Byte) (hno : ∀ c ∈ m, c.1 ≠ off) :
    (Memory.insert off v m).read off = v := by
  induction m with
  | nil => simp [Memory.insert, Memory.read_cons]
  | cons c m ih =>
    unfold Memory.insert
    split
    · simp [Memory.read_cons]
    · simp [Memory.read_cons, hno c (by simp), ih fun d hd => hno d (by simp [hd])]

theorem Memory.mem_erase {m : Memory} {off : Nat} {c : Host.Cell} :
    c ∈ m.erase off ↔ c ∈ m ∧ c.1 ≠ off := by
  simp [Memory.erase]

theorem Memory.mem_insert {m : Memory} {off : Nat} {v : Byte} {c : Host.Cell} :
    c ∈ Memory.insert off v m ↔ c = (off, v) ∨ c ∈ m := by
  induction m with
  | nil => simp [Memory.insert]
  | cons d m ih =>
    unfold Memory.insert
    split
    · simp
    · simp only [List.mem_cons, ih]; tauto

/-- A read after a write to the same offset gives the value written. -/
@[simp] theorem Memory.read_write_same (m : Memory) (off : Nat) (v : Byte) : (m.write off v).read off = v := by
  unfold Memory.write
  split
  · next h => rw [Memory.read_erase_same, h]
  · exact Memory.read_insert_same v fun c hc => (Memory.mem_erase.mp hc).2

/-- A write leaves every other offset alone. -/
theorem Memory.read_write_other {m : Memory} {off other : Nat} (v : Byte) (hne : other ≠ off) :
    (m.write off v).read other = m.read other := by
  unfold Memory.write
  split
  · exact Memory.read_erase_other hne
  · rw [Memory.read_insert_other v hne, Memory.read_erase_other hne]

theorem Memory.wf_nil : Memory.wf [] := by simp [Memory.wf]

theorem Memory.wf_erase {m : Memory} (off : Nat) (h : m.wf) : (m.erase off).wf :=
  ⟨h.1.filter _, fun c hc => h.2 c (Memory.mem_erase.mp hc).1⟩

theorem Memory.insert_rising {m : Memory} {off : Nat} {v : Byte} (hrise : m.Pairwise fun c d => c.1 < d.1)
    (hno : ∀ c ∈ m, c.1 ≠ off) : (Memory.insert off v m).Pairwise fun c d => c.1 < d.1 := by
  induction m with
  | nil => simp [Memory.insert]
  | cons c m ih =>
    obtain ⟨hc, hm⟩ := List.pairwise_cons.mp hrise
    unfold Memory.insert
    split
    · next hlt =>
      refine List.pairwise_cons.mpr ⟨fun d hd => ?_, hrise⟩
      rcases List.mem_cons.mp hd with rfl | hd
      · exact hlt
      · exact Nat.lt_trans hlt (hc d hd)
    · next hge =>
      have hlt : c.1 < off := by
        have := hno c (by simp)
        omega
      refine List.pairwise_cons.mpr ⟨fun d hd => ?_, ih hm fun d hd => hno d (by simp [hd])⟩
      rcases Memory.mem_insert.mp hd with rfl | hd
      · exact hlt
      · exact hc d hd

/-- A write keeps the canonical form. -/
theorem Memory.wf_write {m : Memory} (off : Nat) (v : Byte) (h : m.wf) : (m.write off v).wf := by
  unfold Memory.write
  split
  · exact Memory.wf_erase off h
  · next hv =>
    have he := Memory.wf_erase off h
    refine ⟨Memory.insert_rising he.1 fun c hc => (Memory.mem_erase.mp hc).2, fun c hc => ?_⟩
    rcases Memory.mem_insert.mp hc with rfl | hc
    · exact hv
    · exact he.2 c hc

/-- A write inside a region keeps every listed offset inside it. -/
theorem Memory.within_write {m : Memory} {off size : Nat} (v : Byte) (hoff : off < size) (h : m.within size) :
    (m.write off v).within size := by
  intro c hc
  unfold Memory.write at hc
  split at hc
  · exact h c (Memory.mem_erase.mp hc).1
  · rcases Memory.mem_insert.mp hc with rfl | hc
    · exact hoff
    · exact h c (Memory.mem_erase.mp hc).1

/-- The memory of the model's own reset state has the canonical form. -/
theorem State.reset_memory_wf : ∀ r : Region, (State.reset.contents r).wf := by
  intro r; cases r <;> exact Memory.wf_nil

end Sys2Proof.Machine
end

