-- ==== Sys2Proof/Laws/Ops.lean ====
section
/-! SUPPORT. One lemma per shared operation: everything it can do. -/

namespace Sys2Proof.Machine

theorem reply_eq (b : Byte) (s : State) : reply b s = { s with result := some b } := rfl

theorem raiseFault_eq (f : Fault) (s : State) : raiseFault f s = { s with fault := some f, result := none } := rfl

theorem beginTransaction_eq (rest : List BusEvent) (s : State) :
    beginTransaction rest s = { s with bus := rest, result := none } := rfl

theorem remap_eq (s : State) : remap s = { s with pt := build s.portA8 } := rfl

theorem videoRead_eq (op : VdpState → Byte × VdpState) (s : State) :
    videoRead op s = { s with vdp := (op s.vdp).2, result := some (op s.vdp).1 } := rfl

theorem videoWrite_eq (op : VdpState → Byte → VdpState) (v : Byte) (s : State) :
    videoWrite op v s = { s with vdp := op s.vdp v } := rfl

theorem soundSetSelect_eq (r : BitVec 4) (s : State) : soundSetSelect r s = { s with sndSel := r } := rfl

/-- A sound register after an update is the new byte at the updated index and the old one elsewhere. -/
@[simp] theorem soundReg_withSndReg (s : State) (r q : BitVec 4) (v : Byte) :
    (s.withSndReg r v).soundReg q = if q = r then v else s.soundReg q := by
  by_cases h : q = r
  · subst h; simp [State.soundReg]
  · have hne : r.toNat ≠ q.toNat := fun e => h (BitVec.eq_of_toNat_eq e.symm)
    simp [State.soundReg, h, Vector.getElem_set_ne _ _ hne]

/-- The forwarded write changes the selected register and nothing else (10_state.md R37). -/
theorem soundWriteSelected_eq (v : Byte) (s : State) :
    soundWriteSelected v s =
      s.withSndReg s.sndSel (if storesVerbatim s.sndSel then v else Config.sndRegWrite s.sndSel v) := rfl

/-- The multiplex either changes register 0xE alone or nothing (42_port_writes.md R134). -/
theorem controllerMultiplex_cases (s : State) :
    (s.sndSel = controlRegister ∧ controllerMultiplex s = s.withSndReg snapshotRegister
      (if picksSecondController (s.soundReg controlRegister) then s.ctrl2 else s.ctrl1)) ∨
    (s.sndSel ≠ controlRegister ∧ controllerMultiplex s = s) := by
  by_cases h : s.sndSel = controlRegister
  · exact .inl ⟨h, if_pos h⟩
  · exact .inr ⟨h, if_neg h⟩

/-- A region read faults exactly where the byte is absent, and there with RegionBounds (20_memory.md R55). -/
theorem regionRead_cases (s : State) (r : Region) (off : Nat) :
    (s.absent r off = true ∧ regionRead s r off = .error (.regionBounds r off)) ∨
    (s.absent r off = false ∧ regionRead s r off = .ok (s.byteAt r off)) := by
  unfold regionRead
  cases h : s.absent r off <;> simp

/-- A region write stores one byte of RAM or does nothing (20_memory.md R56). -/
theorem regionWrite_cases (s : State) (r : Region) (off : Nat) (v : Byte) :
    (r = .ram ∧ regionWrite s r off v = s.withRam (s.ram.write off v)) ∨
    (r ≠ .ram ∧ regionWrite s r off v = s) := by
  cases r <;> simp [regionWrite]

/-- A byte of a region after a store to RAM. -/
theorem byteAt_withRam_write (s : State) (off : Nat) (v : Byte) (r : Region) (other : Nat) :
    (s.withRam (s.ram.write off v)).byteAt r other =
      if r = .ram ∧ other = off then v else s.byteAt r other := by
  cases r <;> simp [State.byteAt, State.contents]
  by_cases h : other = off
  · simp [h]
  · simp [h, Memory.read_write_other v h]

/-- Translation reads one entry of the table and adds the page offset (20_memory.md R57). -/
theorem translate_eq (s : State) (a : Addr) :
    translate s a = ⟨s.pt[pageIndex a].region, s.pt[pageIndex a].offset + pageOffset a, s.pt[pageIndex a].wmask⟩ :=
  rfl

end Sys2Proof.Machine
end

