-- ==== Sys2Proof/Laws/PerInstr.lean ====
section
/-! SUPPORT. Statements made per instruction: the encoding of an instruction carries the match bits of its own row of the
opcode table (30_encoding.md R82). -/

namespace Sys2Proof.Laws.EncodesItsRow

/-- The row with the instruction's mnemonic fits the selector the instruction encodes to. -/
def Statement (i : Instr) : Prop :=
  ∃ row ∈ opcodeRows, row.mnemonic = i.mnemonic ∧ row.fits (encode i).selector = true

theorem inVdpData (h : Byte) : Statement (.inVdpData h) :=
  ⟨⟨"IN_VDP_DATA", 0x00098, 0x300FF, false⟩, by simp [opcodeRows], rfl,
    by simp only [OpcodeRow.fits, encode, selectorOf_and_portMask, decodedPort_portOf]; decide⟩
theorem inVdpStatus (h : Byte) : Statement (.inVdpStatus h) :=
  ⟨⟨"IN_VDP_STATUS", 0x00099, 0x300FF, false⟩, by simp [opcodeRows], rfl,
    by simp only [OpcodeRow.fits, encode, selectorOf_and_portMask, decodedPort_portOf]; decide⟩
theorem inSndData (h : Byte) : Statement (.inSndData h) :=
  ⟨⟨"IN_SND_DATA", 0x000A2, 0x300FF, false⟩, by simp [opcodeRows], rfl,
    by simp only [OpcodeRow.fits, encode, selectorOf_and_portMask, decodedPort_portOf]; decide⟩
theorem inMapctl (h : Byte) : Statement (.inMapctl h) :=
  ⟨⟨"IN_MAPCTL", 0x000A8, 0x300FF, false⟩, by simp [opcodeRows], rfl,
    by simp only [OpcodeRow.fits, encode, selectorOf_and_portMask, decodedPort_portOf]; decide⟩
theorem inPortA9 (h : Byte) : Statement (.inPortA9 h) :=
  ⟨⟨"IN_PORT_A9", 0x000A9, 0x300FF, false⟩, by simp [opcodeRows], rfl,
    by simp only [OpcodeRow.fits, encode, selectorOf_and_portMask, decodedPort_portOf]; decide⟩
theorem inIdle (port : Port) : Statement (.inIdle port) :=
  ⟨⟨"IN_IDLE", 0x00000, 0x30000, true⟩, by simp [opcodeRows], rfl,
    by simp only [OpcodeRow.fits, encode, selectorOf_and_spaceMask]; decide⟩
theorem outVdpData (h v : Byte) : Statement (.outVdpData h v) :=
  ⟨⟨"OUT_VDP_DATA", 0x10098, 0x300FF, false⟩, by simp [opcodeRows], rfl,
    by simp only [OpcodeRow.fits, encode, selectorOf_and_portMask, decodedPort_portOf]; decide⟩
theorem outVdpControl (h v : Byte) : Statement (.outVdpControl h v) :=
  ⟨⟨"OUT_VDP_CONTROL", 0x10099, 0x300FF, false⟩, by simp [opcodeRows], rfl,
    by simp only [OpcodeRow.fits, encode, selectorOf_and_portMask, decodedPort_portOf]; decide⟩
theorem outSndSelect (h v : Byte) : Statement (.outSndSelect h v) :=
  ⟨⟨"OUT_SND_SELECT", 0x100A0, 0x300FF, false⟩, by simp [opcodeRows], rfl,
    by simp only [OpcodeRow.fits, encode, selectorOf_and_portMask, decodedPort_portOf]; decide⟩
theorem outSndWrite (h v : Byte) : Statement (.outSndWrite h v) :=
  ⟨⟨"OUT_SND_WRITE", 0x100A1, 0x300FF, false⟩, by simp [opcodeRows], rfl,
    by simp only [OpcodeRow.fits, encode, selectorOf_and_portMask, decodedPort_portOf]; decide⟩
theorem outMapctl (h v : Byte) : Statement (.outMapctl h v) :=
  ⟨⟨"OUT_MAPCTL", 0x100A8, 0x300FF, false⟩, by simp [opcodeRows], rfl,
    by simp only [OpcodeRow.fits, encode, selectorOf_and_portMask, decodedPort_portOf]; decide⟩
theorem outIgnored (port : Port) (v : Byte) : Statement (.outIgnored port v) :=
  ⟨⟨"OUT_IGNORED", 0x10000, 0x30000, true⟩, by simp [opcodeRows], rfl,
    by simp only [OpcodeRow.fits, encode, selectorOf_and_spaceMask]; decide⟩
theorem memRd (addr : Addr) : Statement (.memRd addr) :=
  ⟨⟨"MEM_RD", 0x20000, 0x30000, false⟩, by simp [opcodeRows], rfl,
    by simp only [OpcodeRow.fits, encode, selectorOf_and_spaceMask]; decide⟩
theorem memWr (addr : Addr) (v : Byte) : Statement (.memWr addr v) :=
  ⟨⟨"MEM_WR", 0x30000, 0x30000, false⟩, by simp [opcodeRows], rfl,
    by simp only [OpcodeRow.fits, encode, selectorOf_and_spaceMask]; decide⟩

end Sys2Proof.Laws.EncodesItsRow
end

