-- ==== Sys2Proof/Laws/Step.lean ====
section
/-! SUPPORT. What an instruction and a step can do, said once. -/

namespace Sys2Proof.Machine

/-- MEM_RD returns a byte or sets the fault mark (44_memory_access.md R190). -/
theorem execMemRd_cases (a : Addr) (s : State) :
    (s.absent (translate s a).region (translate s a).offset = false ∧
      execMemRd a s = .next (reply (s.byteAt (translate s a).region (translate s a).offset) s)) ∨
    (s.absent (translate s a).region (translate s a).offset = true ∧
      execMemRd a s = .next (raiseFault (.regionBounds (translate s a).region (translate s a).offset) s)) := by
  rcases regionRead_cases s (translate s a).region (translate s a).offset with ⟨h, e⟩ | ⟨h, e⟩
  · exact .inr ⟨h, by simp [execMemRd, e]⟩
  · exact .inl ⟨h, by simp [execMemRd, e]⟩

/-- MEM_WR changes nothing or stores one byte of RAM (44_memory_access.md R193, R194). -/
theorem execMemWr_cases (a : Addr) (v : Byte) (s : State) :
    (((translate s a).wmask = 0x00#8 ∨ (translate s a).region ≠ .ram) ∧ execMemWr a v s = .next s) ∨
    ((translate s a).wmask ≠ 0x00#8 ∧ (translate s a).region = .ram ∧
      execMemWr a v s = .next (s.withRam (s.ram.write (translate s a).offset
        (maskMerge (s.byteAt .ram (translate s a).offset) v (translate s a).wmask)))) := by
  simp only [execMemWr]
  by_cases hm : (translate s a).wmask = 0x00#8
  · exact .inl ⟨.inl hm, if_pos hm⟩
  · rcases regionWrite_cases s (translate s a).region (translate s a).offset
      (maskMerge (s.byteAt (translate s a).region (translate s a).offset) v (translate s a).wmask) with
      ⟨hr, e⟩ | ⟨hr, e⟩
    · exact .inr ⟨hm, hr, by rw [hr] at e; rw [if_neg hm, hr, e]⟩
    · exact .inl ⟨.inr hr, by rw [if_neg hm, e]⟩

/-- Everything a step can answer. -/
theorem step_cases (s : State) :
    (∃ f, s.fault = some f ∧ step s = .fault f) ∨
    (s.fault = none ∧ s.bus = [] ∧ step s = .next s) ∨
    (∃ v rest, s.fault = none ∧ s.bus = .hostCtrl1 v :: rest ∧ step s = .next ((s.withBus rest).withCtrl1 v)) ∨
    (∃ v rest, s.fault = none ∧ s.bus = .hostCtrl2 v :: rest ∧ step s = .next ((s.withBus rest).withCtrl2 v)) ∨
    (∃ t rest, s.fault = none ∧ s.bus = .transaction t :: rest ∧
      step s = exec (decode t) (beginTransaction rest s)) := by
  unfold step
  cases hf : s.fault with
  | some f => simp
  | none =>
    cases hb : s.bus with
    | nil => simp
    | cons e rest => cases e <;> simp

end Sys2Proof.Machine
end

