-- ==== Sys2Proof/Laws/Run.lean ====
section
/-! SUPPORT. Runs of the machine, one step at a time, and the one induction over them. -/

namespace Sys2Proof.Machine

@[simp] theorem run_zero (s : State) : Host.Core.run Sys2Proof.core 0 s = .next s := rfl

/-- A run of one step more takes a step and runs on. -/
theorem run_succ (k : Nat) (s : State) :
    Host.Core.run Sys2Proof.core (k + 1) s =
      match step s with
      | .next s' => Host.Core.run Sys2Proof.core k s'
      | .fault r => .fault r
      | .refused r => .refused r := by
  have h : Sys2Proof.core.step s = step s := rfl
  simp only [Host.Core.run, h]
  cases step s <;> rfl

theorem run_succ_next {k : Nat} {s s' : State} (h : step s = .next s') :
    Host.Core.run Sys2Proof.core (k + 1) s = Host.Core.run Sys2Proof.core k s' := by
  rw [run_succ, h]

/-- What holds of a state and is kept by every step holds of every state a run ends in. -/
theorem run_keeps {P : State → Prop} (hstep : ∀ s s', P s → step s = .next s' → P s') {k : Nat} {s s' : State}
    (hs : P s) (hrun : Host.Core.run Sys2Proof.core k s = .next s') : P s' := by
  induction k generalizing s with
  | zero => cases hrun; exact hs
  | succ k ih =>
    rw [run_succ] at hrun
    cases he : step s with
    | next s1 => rw [he] at hrun; exact ih (hstep s s1 hs he) hrun
    | fault r => rw [he] at hrun; cases hrun
    | refused r => rw [he] at hrun; cases hrun

/-- No instruction touches the pending events. -/
theorem exec_bus (i : Instr) (s s' : State) (h : exec i s = .next s') : s'.bus = s.bus := by
  cases i <;> simp only [exec] at h
  case memRd a => rcases execMemRd_cases a s with ⟨_, e⟩ | ⟨_, e⟩ <;> (rw [e] at h; cases h; rfl)
  case memWr a v => rcases execMemWr_cases a v s with ⟨_, e⟩ | ⟨_, _, e⟩ <;> (rw [e] at h; cases h; rfl)
  case outSndWrite a v =>
    cases h
    rcases controllerMultiplex_cases (soundWriteSelected v s) with ⟨_, e⟩ | ⟨_, e⟩ <;> rw [e] <;> rfl
  all_goals (cases h; rfl)

/-- A step takes the event at the head of the queue, if there is one, and no other. -/
theorem step_bus (s s' : State) (h : step s = .next s') : s'.bus = s.bus.tail := by
  rcases step_cases s with ⟨_, _, e⟩ | ⟨_, hb, e⟩ | ⟨_, _, _, hb, e⟩ | ⟨_, _, _, hb, e⟩ | ⟨_, _, _, hb, e⟩ <;>
    rw [e] at h
  · cases h
  · cases h; rw [hb]; rfl
  · cases h; rw [hb]; rfl
  · cases h; rw [hb]; rfl
  · rw [exec_bus _ _ _ h, hb]; rfl

end Sys2Proof.Machine
end

