-- ==== Sys2Proof/Tests/Slice0.lean ====
section
/-! SUPPORT. Tests of the model, each expected value written out from 95_test_vectors.md or from the rule its comment
names, and, for every statement with hypotheses, a witness that meets them. -/

namespace Sys2Proof.Tests

open Sys2Proof.Machine

/-! ### Small states -/

/-- A state with control value `c`, its table built, one or two marked bytes in each region, and every sound register
but 0xE and 0xF zero. -/
def sample (c : Byte) : State :=
  { State.reset with
    portA8 := c, pt := build c
    boot := [(0x0123, 0xB0#8)], basic := [(0x0123, 0xB1#8), (0x3FFF, 0xB2#8)]
    cart1 := [(0x7FFF, 0xC1#8), (0xBFFF, 0xC2#8)], cart2 := [(0x0000, 0xC3#8), (0x3FFF, 0xC4#8)]
    ram := [(0x8000, 0xD1#8), (0xBFFF, 0xD2#8)], unmapped := [(0x000, 0xE1#8), (0x123, 0xE2#8), (0x3FF, 0xE3#8)]
    ctrl1 := 0x3F#8, ctrl2 := 0x2A#8 }

/-- `sample c` with the smallest image in cartridge slot 1. -/
def shortCart (c : Byte) : State := { sample c with cart1Size := 0xC000 }

/-- `sample c` with sound register `r` selected. -/
def selected (r : BitVec 4) (c : Byte) : State :=
  { sample c with sndSel := r, sndReg := ((Vector.replicate 16 0#8).set 0xE 0x11#8).set 0xF 0x22#8 }

/-- `sample c` with instructions pending. -/
def pending (c : Byte) (is : List Instr) : State := { sample c with bus := issue is }

/-- What `f` reads in the next state of `i`. -/
def after {α : Type} (i : Instr) (s : State) (f : State → α) : Option α := (nextState (exec i s)).map f

/-! ### Ill-formed terms are refused (30_encoding.md R82: a default row is taken only when no other row matches) -/

theorem test_illFormed_idle : ∀ p ∈ [0x0098#16, 0x1299#16, 0x00A2#16, 0xFFA8#16, 0xA8A9#16],
    (Instr.inIdle p).wellFormed = false := by simp [Instr.wellFormed, decodedReadPorts]
theorem test_illFormed_ignored : ∀ p ∈ [0xA898#16, 0x0099#16, 0x00A0#16, 0x12A1#16, 0xFFA8#16],
    (Instr.outIgnored p 0x55#8).wellFormed = false := by simp [Instr.wellFormed, decodedWritePorts]
theorem test_wellFormed_defaults : (Instr.inIdle 0x00A0#16).wellFormed = true ∧
    (Instr.inIdle 0x9800#16).wellFormed = true ∧ (Instr.outIgnored 0x98A9#16 0x01#8).wellFormed = true := by decide

/-! ### Decoding, from the words of 95_test_vectors.md Part 2.1 and of its Part 3 -/

theorem test_decode_inVdpData : decodeTableWord 24 0x0FF98 = some (.inVdpData 0xFF#8) := by decide
theorem test_decode_inVdpStatus : decodeTableWord 24 0x00099 = some (.inVdpStatus 0x00#8) := by decide
theorem test_decode_inSndData : decodeTableWord 24 0x000A2 = some (.inSndData 0x00#8) := by decide
theorem test_decode_inMapctl : decodeTableWord 24 0x012A8 = some (.inMapctl 0x12#8) := by decide
theorem test_decode_inPortA9 : decodeTableWord 24 0x0A8A9 = some (.inPortA9 0xA8#8) := by decide
theorem test_decode_inIdle : decodeTableWord 24 0x000A1 = some (.inIdle 0x00A1#16) := by decide
theorem test_decode_outVdpData : decode ⟨0b010000000010011000#18, 0x41#8⟩ = .outVdpData 0x00#8 0x41#8 := by decide
theorem test_decode_outVdpControl :
    decode ⟨0b010000000010011001#18, 0x80#8⟩ = .outVdpControl 0x00#8 0x80#8 := by decide
theorem test_decode_outSndSelect :
    decode ⟨0b010000000010100000#18, 0x1F#8⟩ = .outSndSelect 0x00#8 0x1F#8 := by decide
theorem test_decode_outSndWrite :
    decode ⟨0b010000000010100001#18, 0x8F#8⟩ = .outSndWrite 0x00#8 0x8F#8 := by decide
theorem test_decode_outMapctl : decode ⟨0b010001001010101000#18, 0x36#8⟩ = .outMapctl 0x12#8 0x36#8 := by decide
theorem test_decode_outIgnored : decode ⟨0b010000001010100010#18, 0x99#8⟩ = .outIgnored 0x02A2#16 0x99#8 := by decide
theorem test_decode_memRd : decode ⟨0b101100000100100011#18, 0x00#8⟩ = .memRd 0xC123#16 := by decide
theorem test_decode_memWr : decode ⟨0b110100000100000000#18, 0x12#8⟩ = .memWr 0x4100#16 0x12#8 := by decide

/-- The encoder gives the selector words of Part 2.1 back. -/
theorem test_encode_words : (encode (.inMapctl 0x12#8)).selector = 0x012A8#18 ∧
    encode (.outMapctl 0xFF#8 0x36#8) = ⟨0x1FFA8#18, 0x36#8⟩ ∧ (encode (.memRd 0xC000#16)).selector = 0x2C000#18 ∧
    encode (.memWr 0x8000#16 0x22#8) = ⟨0x38000#18, 0x22#8⟩ := by decide

/-- The byte form refuses too few bytes and a bit above the selector (log 11). -/
theorem test_bytes_refused :
    (match decodeBytes [0xA8#8, 0x00#8, 0x01#8] with | .error .truncated => true | _ => false) = true ∧
    (match decodeBytes [0xA8#8, 0x00#8, 0x05#8, 0x36#8] with | .error .selectorBitsAbove17 => true | _ => false) = true
    := by decide

/-- The packed entries of Part 2.1 (30_encoding.md R93). -/
theorem test_packed_entries : Entry.pack ⟨.boot, 0x0000, 0x00#8⟩ = 0x00000#17 ∧
    Entry.pack ⟨.cart1, 0x4400, 0x00#8⟩ = 0x09100#17 ∧ Entry.pack ⟨.ram, 0xFC00, 0xFF#8⟩ = 0x13FFF#17 ∧
    Entry.pack ⟨.unmapped, 0, 0x00#8⟩ = 0x14000#17 := by decide

/-! ### I/O reads (95_test_vectors.md Part 2.2) -/

theorem test_inVdpData : after (.inVdpData 0x00#8) (sample 0x00#8) (fun s => (s.result, s.vdp)) =
    some (some (Config.vdpReadData ⟨0⟩).1, (Config.vdpReadData ⟨0⟩).2) := rfl
theorem test_inVdpStatus : after (.inVdpStatus 0x00#8) (sample 0x00#8) (fun s => (s.result, s.vdp)) =
    some (some (Config.vdpReadStatus ⟨0⟩).1, (Config.vdpReadStatus ⟨0⟩).2) := rfl
theorem test_inSndData_verbatim : after (.inSndData 0x00#8)
    { sample 0x00#8 with sndSel := 0xE#4, sndReg := (Vector.replicate 16 0#8).set 0xE 0x2A#8 } (·.result) =
    some (some 0x2A#8) := by decide
theorem test_inSndData_other : after (.inSndData 0x00#8) (selected 0x3#4 0x00#8) (·.result) =
    some (some (Config.sndRegRead 0x3#4 0x00#8)) := rfl
theorem test_inMapctl : after (.inMapctl 0xFF#8) (sample 0x36#8) (·.result) = some (some 0x36#8) := by decide
theorem test_inPortA9 : after (.inPortA9 0x00#8) (sample 0x36#8) (·.result) = some (some 0xFF#8) := by decide
theorem test_inIdle : after (.inIdle 0x00A0#16) (sample 0x36#8) (·.result) = some (some 0xFF#8) := by decide

/-! ### I/O writes (95_test_vectors.md Part 2.3) -/

theorem test_outVdpData : after (.outVdpData 0x00#8 0x41#8) (sample 0x00#8) (·.vdp) =
    some (Config.vdpWriteData ⟨0⟩ 0x41#8) := rfl
theorem test_outVdpControl : after (.outVdpControl 0x00#8 0x80#8) (sample 0x00#8) (·.vdp) =
    some (Config.vdpWriteControl ⟨0⟩ 0x80#8) := rfl
theorem test_outSndSelect : [0x00#8, 0x0F#8, 0x1F#8, 0xF0#8, 0xFE#8, 0xFF#8].map
    (fun v => after (.outSndSelect 0x00#8 v) (sample 0x00#8) (·.sndSel)) =
    [some 0x0#4, some 0xF#4, some 0xF#4, some 0x0#4, some 0xE#4, some 0xF#4] := by decide
theorem test_outSndWrite_multiplex : [0x40#8, 0x00#8, 0xBF#8, 0x7F#8, 0x80#8, 0xFF#8].map
    (fun v => after (.outSndWrite 0x00#8 v) (selected 0xF#4 0x00#8) fun s => (s.soundReg 0xF#4, s.soundReg 0xE#4)) =
    [some (0x40#8, 0x2A#8), some (0x00#8, 0x3F#8), some (0xBF#8, 0x3F#8), some (0x7F#8, 0x2A#8), some (0x80#8, 0x3F#8),
     some (0xFF#8, 0x2A#8)] := by decide
theorem test_outSndWrite_direct : after (.outSndWrite 0x00#8 0x77#8) (selected 0xE#4 0x00#8)
    (fun s => (s.soundReg 0xE#4, s.soundReg 0xF#4)) = some (0x77#8, 0x22#8) := by decide
theorem test_outMapctl_W7 : after (.outMapctl 0x12#8 0x36#8) (sample 0x00#8)
    (fun s => (s.portA8, s.pt[15], s.pt[16], s.pt[32], s.pt[63])) =
    some (0x36#8, ⟨.cart2, 0x3C00, 0x00#8⟩, ⟨.cart1, 0x4000, 0x00#8⟩, ⟨.ram, 0x8000, 0xFF#8⟩,
      ⟨.unmapped, 0, 0x00#8⟩) := by decide
theorem test_outMapctl_E4 : after (.outMapctl 0x00#8 0xE4#8) (sample 0x00#8)
    (fun s => (s.pt[0], s.pt[17], s.pt[40], s.pt[63])) =
    some (⟨.boot, 0, 0x00#8⟩, ⟨.cart1, 0x4400, 0x00#8⟩, ⟨.cart2, 0xA000, 0x00#8⟩, ⟨.ram, 0xFC00, 0xFF#8⟩) := by decide
theorem test_outIgnored : after (.outIgnored 0x98A9#16 0x01#8) (sample 0x36#8) (fun s => (s.portA8, s.ram, s.sndSel)) =
    some (0x36#8, [(0x8000, 0xD1#8), (0xBFFF, 0xD2#8)], 0x0#4) := by decide

/-! ### Memory access (95_test_vectors.md Part 2.5) -/

theorem test_memRd_quadrants : [0x0000#16, 0x3FFF#16, 0x7FFF#16, 0x8000#16, 0xBFFF#16, 0xC000#16, 0xD123#16, 0xFFFF#16].map
    (fun a => after (.memRd a) (sample 0x36#8) (·.result)) =
    [some (some 0xC3#8), some (some 0xC4#8), some (some 0xC1#8), some (some 0xD1#8), some (some 0xD2#8),
     some (some 0xE1#8), some (some 0xE2#8), some (some 0xE3#8)] := by decide
theorem test_memRd_bounds : [(0x40#8, 0xC000#16), (0x40#8, 0xFFFF#16), (0x55#8, 0xBFFF#16)].map
    (fun x => after (.memRd x.2) (shortCart x.1) (fun s => (s.result, s.fault))) =
    [some (none, some (.regionBounds .cart1 0xC000)), some (none, some (.regionBounds .cart1 0xFFFF)),
     some (some 0xC2#8, none)] := by decide
theorem test_memWr_quadrants : [(0x0000#16, 0x11#8), (0x4000#16, 0x12#8), (0x8000#16, 0x22#8), (0xBFFF#16, 0x23#8),
      (0xC000#16, 0x33#8)].map (fun x => after (.memWr x.1 x.2) (sample 0x36#8) (·.ram)) =
    [some [(0x8000, 0xD1#8), (0xBFFF, 0xD2#8)], some [(0x8000, 0xD1#8), (0xBFFF, 0xD2#8)],
     some [(0x8000, 0x22#8), (0xBFFF, 0xD2#8)], some [(0x8000, 0xD1#8), (0xBFFF, 0x23#8)],
     some [(0x8000, 0xD1#8), (0xBFFF, 0xD2#8)]] := by decide
/-- Writing what an unlisted byte reads as removes the cell (log 7), and a write never faults (R193). -/
theorem test_memWr_canonical :
    after (.memWr 0x8000#16 0xFF#8) (sample 0x36#8) (fun s => (s.ram, s.byteAt .ram 0x8000)) =
      some ([(0xBFFF, 0xD2#8)], 0xFF#8) ∧
    after (.memWr 0xC000#16 0x55#8) (shortCart 0x40#8) (·.fault) = some none := by decide

/-! ### The step, reset and launch -/

/-- A word of the table is what the next step runs: MEM_RD of 0xC000 right after reset returns UNMAPPED_PAGE[0], which
nothing has listed (95_test_vectors.md Part 2.6; log 7). -/
theorem test_withFetchWord :
    (nextState (step (State.reset.withFetchWord 24 0x2C000))).map (fun s => (s.result, s.bus)) = some (some 0xFF#8, [])
    := by decide
theorem test_step_faulted :
    (match step ((pending 0x40#8 [.memRd 0x0000#16]).withFault (some (.regionBounds .cart1 0xC000))) with
      | .fault f => some f | _ => none) = some (.regionBounds .cart1 0xC000) := by decide
theorem test_reset_table : State.reset.portA8 = 0x00#8 ∧ State.reset.pt[15] = ⟨.boot, 0x3C00, 0x00#8⟩ ∧
    State.reset.pt[16] = ⟨.basic, 0x0000, 0x00#8⟩ ∧ State.reset.pt[31] = ⟨.basic, 0x3C00, 0x00#8⟩ ∧
    State.reset.pt[32] = ⟨.unmapped, 0, 0x00#8⟩ ∧ State.reset.fault = none := by decide
/-- A complete launch, from which every witness about a launch is made. -/
def fullLaunch : Launch where
  video := some ⟨0⟩
  sound := some (0, Vector.replicate 16 0)
  pageTable := true
  boot := some []
  basic := some []
  cart1 := some (0xC000, [])
  cart2 := some (0xC000, [])
  ram := some []
  unmapped := some []
  ctrl1 := 0
  ctrl2 := 0
/-- A launch with no video unit is refused (95_test_vectors.md Part 2.7). -/
theorem test_launch_refused : (match Launch.start { fullLaunch with video := none } with
    | .refused r => some r | _ => none) = some (.unwired .videoUnit) := by decide

/-! ### Witnesses: the hypotheses of every statement are met -/

theorem witness_DecodeInvertsEncode : (Instr.inIdle 0x9800#16).wellFormed = true ∧
    (Instr.outIgnored 0xA800#16 0x55#8).wellFormed = true ∧ (Instr.memWr 0xFFFF#16 0xFF#8).wellFormed = true := by decide

theorem witness_EncodeInvertsDecode : (0x100A8#18).getLsbD 16 = true ∧ (0x3FFFF#18).getLsbD 16 = true := by decide

theorem witness_DecodeFollowsOpcodeTable : ∀ row ∈ opcodeRows,
    row.taken row.matchBits = true ∧ row.fits row.matchBits = true := by decide

theorem witness_UpperPortBitsAreIgnored : (0b00#2).getLsbD 1 = false ∧ (0b01#2).getLsbD 1 = false ∧
    decodedPort 0x00A8#16 = decodedPort 0xFFA8#16 ∧ decodedPort 0x00A0#16 = decodedPort 0x12A0#16 := by decide

theorem witness_StepRunsTheIssuedTransaction : (pending 0x36#8 [.memRd 0x8000#16]).fault = none ∧
    (pending 0x36#8 [.memRd 0x8000#16]).bus = .transaction (encode (.memRd 0x8000#16)) :: [] := ⟨rfl, rfl⟩

theorem witness_HostEventsSetOneControllerByte : (sample 0x00#8).fault = none ∧ (sample 0x00#8).bus = [] ∧
    { sample 0x00#8 with bus := [.hostCtrl1 0xFF#8] }.bus = .hostCtrl1 0xFF#8 :: [] ∧
    { sample 0x00#8 with bus := [.hostCtrl2 0x15#8] }.bus = .hostCtrl2 0x15#8 :: [] := ⟨rfl, rfl, rfl, rfl⟩

theorem witness_FaultMarkStopsTheBlock : after (.memRd 0xC000#16) (shortCart 0x40#8) (·.fault) =
    some (some (.regionBounds .cart1 0xC000)) := by decide

theorem witness_EverySelectorDecodesToOneRow : (sample 0x36#8).fault = none ∧
    { sample 0x36#8 with bus := [.transaction ⟨selectorOf 0b00#2 0x00A0#16, 0x00#8⟩] }.bus =
      .transaction ⟨selectorOf 0b00#2 0x00A0#16, 0x00#8⟩ :: [] ∧
    { sample 0x36#8 with bus := [.transaction ⟨selectorOf 0b01#2 0xFFA9#16, 0xFF#8⟩] }.bus =
      .transaction ⟨selectorOf 0b01#2 0xFFA9#16, 0xFF#8⟩ :: [] ∧
    (0x00A0#16).extractLsb' 0 8 ∉ [0x98#8, 0x99#8, 0xA2#8, 0xA8#8, 0xA9#8] ∧
    (0xFFA9#16).extractLsb' 0 8 ∉ [0x98#8, 0x99#8, 0xA0#8, 0xA1#8, 0xA8#8] := by
  refine ⟨rfl, rfl, rfl, ?_, ?_⟩ <;> decide

theorem witness_EveryTransactionCompletes : (shortCart 0x40#8).fault = none ∧
    { shortCart 0x40#8 with bus := issue [.memRd 0xC000#16] }.bus = .transaction (encode (.memRd 0xC000#16)) :: [] :=
  ⟨rfl, rfl⟩

theorem witness_SoundReadReturnsTheSelectedRegister : (selected 0xE#4 0x00#8).sndSel = 0xE#4 ∧
    (selected 0xF#4 0x00#8).sndSel = 0xF#4 ∧ (selected 0xD#4 0x00#8).sndSel ≠ 0xE#4 ∧
    (selected 0xD#4 0x00#8).sndSel ≠ 0xF#4 := by decide

theorem witness_ControlRegisterReadsBackVerbatim : (∃ s', exec (.inMapctl 0x00#8) (sample 0x36#8) = .next s') ∧
    (∀ h v, Instr.inMapctl 0x00#8 ≠ .outMapctl h v) ∧
    (pending 0x00#8 [.outMapctl 0x12#8 0xFF#8, .inMapctl 0xFF#8]).fault = none ∧
    (pending 0x00#8 [.outMapctl 0x12#8 0xFF#8, .inMapctl 0xFF#8]).bus =
      .transaction ⟨selectorOf 0b01#2 (portOf 0x12#8 0xA8#8), 0xFF#8⟩ ::
      .transaction ⟨selectorOf 0b00#2 (portOf 0xFF#8 0xA8#8), 0x00#8⟩ :: [] := by
  refine ⟨⟨_, rfl⟩, ?_, rfl, rfl⟩
  intro h v e
  cases e

theorem witness_IdleReadsReturnFF : ∀ p ∈ [0x0000#16, 0x00A0#16, 0x00A1#16, 0x00AA#16, 0x9800#16, 0xFFFF#16],
    p.extractLsb' 0 8 ∉ [0x98#8, 0x99#8, 0xA2#8, 0xA8#8, 0xA9#8] := by simp

theorem witness_IoReadReturnsOneByteAndChangesOnlyVdp : (0xFF98#16).extractLsb' 0 8 = 0x98#8 ∧
    (0x0099#16).extractLsb' 0 8 = 0x99#8 ∧ (0x00A2#16).extractLsb' 0 8 = 0xA2#8 ∧
    (0x12A8#16).extractLsb' 0 8 = 0xA8#8 ∧ (0x00A9#16).extractLsb' 0 8 ∉ [0x98#8, 0x99#8, 0xA2#8, 0xA8#8] ∧
    (0x00A9#16).extractLsb' 0 8 ∉ [0x98#8, 0x99#8] := by decide

theorem witness_SoundWriteForwardsThenMultiplexes : (selected 0xF#4 0x00#8).sndSel = 0xF#4 ∧
    (selected 0xE#4 0x00#8).sndSel = 0xE#4 ∧ (selected 0xD#4 0x00#8).sndSel ≠ 0xE#4 ∧
    (selected 0xD#4 0x00#8).sndSel ≠ 0xF#4 := by decide

theorem witness_MapperWriteStoresAndRebuilds : (sample 0x36#8).pt = build (sample 0x36#8).portA8 := rfl

theorem witness_IgnoredWritesChangeNothing : ∀ p ∈ [0x00A2#16, 0x00A9#16, 0x009A#16, 0x0000#16, 0x98A9#16, 0xFFFF#16],
    p.extractLsb' 0 8 ∉ [0x98#8, 0x99#8, 0xA0#8, 0xA1#8, 0xA8#8] := by simp

theorem witness_IoWriteHasOnlyItsRowsEffect : (0xFFA8#16).extractLsb' 0 8 = 0xA8#8 ∧
    (0x00A0#16).extractLsb' 0 8 = 0xA0#8 ∧ (0x00A1#16).extractLsb' 0 8 = 0xA1#8 ∧
    (0xA898#16).extractLsb' 0 8 = 0x98#8 ∧ (0x0099#16).extractLsb' 0 8 = 0x99#8 ∧
    (0x00A2#16).extractLsb' 0 8 ≠ 0xA8#8 ∧ (0x00A2#16).extractLsb' 0 8 ∉ [0xA0#8, 0xA1#8] ∧
    (0x00A2#16).extractLsb' 0 8 ∉ [0x98#8, 0x99#8] := by decide

/-- 0x36 and 0x3E differ in SEL1 alone (95_test_vectors.md Part 2.4). -/
theorem witness_QuadrantsDependOnTheirOwnField : ∀ p ∈ [(0 : Fin 64), 15, 32, 63],
    ((0x36#8).toNat >>> (2 * (p.val / 16))) &&& 3 = ((0x3E#8).toNat >>> (2 * (p.val / 16))) &&& 3 := by decide

theorem witness_MapperWriteTakesEffectAtOnce : (pending 0x00#8 [.outMapctl 0xFF#8 0x36#8]).fault = none ∧
    (pending 0x00#8 [.outMapctl 0xFF#8 0x36#8]).bus =
      .transaction ⟨selectorOf 0b01#2 (portOf 0xFF#8 0xA8#8), 0x36#8⟩ :: [] := ⟨rfl, rfl⟩

theorem witness_OnlyMapperWritesChangeTheMapping :
    (∃ s', step (pending 0x00#8 [.outMapctl 0x00#8 0x36#8]) = .next s') ∧ (∃ s', step (sample 0x00#8) = .next s') :=
  ⟨⟨_, rfl⟩, ⟨_, rfl⟩⟩

theorem witness_PageTableStaysCurrent :
    (pending 0x00#8 [.outMapctl 0x00#8 0x36#8]).pt = build (pending 0x00#8 [.outMapctl 0x00#8 0x36#8]).portA8 ∧
    ∃ s', step (pending 0x00#8 [.outMapctl 0x00#8 0x36#8]) = .next s' := ⟨rfl, ⟨_, rfl⟩⟩

theorem witness_TranslateAddsThePageOffset : (0 : Fin 64).val = (0x03FF#16).toNat / 0x400 ∧
    (1 : Fin 64).val = (0x0400#16).toNat / 0x400 ∧ (63 : Fin 64).val = (0xFFFF#16).toNat / 0x400 := by decide

theorem witness_DistinctAddressesReachDistinctBytes : (sample 0x36#8).pt = build (sample 0x36#8).portA8 ∧
    (translate (sample 0x36#8) 0x8000#16).region = .ram ∧ (translate (sample 0x36#8) 0xBFFF#16).region = .ram ∧
    (translate (sample 0x36#8) 0xC123#16).region = .unmapped ∧ (translate (sample 0x36#8) 0xF123#16).region = .unmapped :=
  ⟨rfl, by decide⟩

theorem witness_TranslatedOffsetsStayInTheirRegion :
    (sample 0x00#8).pt = build (sample 0x00#8).portA8 ∧ (sample 0xE4#8).pt = build (sample 0xE4#8).portA8 ∧
    (translate (sample 0x00#8) 0x3FFF#16).region = .boot ∧ (translate (sample 0x00#8) 0x7FFF#16).region = .basic ∧
    (translate (sample 0xE4#8) 0x7FFF#16).region = .cart1 ∧ (translate (sample 0xE4#8) 0xBFFF#16).region = .cart2 ∧
    (translate (sample 0xE4#8) 0xFFFF#16).region = .ram ∧ (translate (sample 0x00#8) 0xFFFF#16).region = .unmapped :=
  ⟨rfl, rfl, by decide⟩

theorem witness_MemoryReadFollowsTheEntry : (48 : Fin 64).val = (0xC000#16).toNat / 0x400 ∧
    (47 : Fin 64).val = (0xBFFF#16).toNat / 0x400 ∧
    (shortCart 0x40#8).pt[(48 : Fin 64)].region = .cart1 ∧
    (shortCart 0x40#8).cart1Size ≤ (shortCart 0x40#8).pt[(48 : Fin 64)].offset + (0xC000#16).toNat % 0x400 ∧
    { shortCart 0x80#8 with cart2Size := 0xC000 }.pt[(48 : Fin 64)].region = .cart2 ∧
    0xC000 ≤ { shortCart 0x80#8 with cart2Size := 0xC000 }.pt[(48 : Fin 64)].offset + (0xC000#16).toNat % 0x400 ∧
    (shortCart 0x55#8).pt[(47 : Fin 64)].region = .cart1 ∧
    ¬(shortCart 0x55#8).cart1Size ≤ (shortCart 0x55#8).pt[(47 : Fin 64)].offset + (0xBFFF#16).toNat % 0x400 ∧
    (sample 0x36#8).pt[(48 : Fin 64)].region = .unmapped := by decide

theorem witness_MemoryReadFollowsTheEntry_current : (sample 0x36#8).pt = build (sample 0x36#8).portA8 := rfl

theorem witness_MemoryReadByQuadrantField :
    (∀ c : Byte, (shortCart c).pt = build (shortCart c).portA8 ∧ (shortCart c).portA8 = c ∧
      (shortCart c).cart1Size = 0xC000) ∧
    ((0x00#8).toNat >>> (2 * ((0x3FFF#16).toNat / 0x4000))) &&& 3 = 0 ∧
    ((0x00#8).toNat >>> (2 * ((0x4000#16).toNat / 0x4000))) &&& 3 = 0 ∧
    ((0x00#8).toNat >>> (2 * ((0x7FFF#16).toNat / 0x4000))) &&& 3 = 0 ∧
    ((0x00#8).toNat >>> (2 * ((0x8000#16).toNat / 0x4000))) &&& 3 = 0 ∧
    ((0x55#8).toNat >>> (2 * ((0xBFFF#16).toNat / 0x4000))) &&& 3 = 1 ∧ (0xBFFF#16).toNat < 0xC000 ∧
    ((0x55#8).toNat >>> (2 * ((0xC000#16).toNat / 0x4000))) &&& 3 = 1 ∧ 0xC000 ≤ (0xC000#16).toNat ∧
    ((0xAA#8).toNat >>> (2 * ((0xFFFF#16).toNat / 0x4000))) &&& 3 = 2 ∧
    (0xFFFF#16).toNat < (shortCart 0xAA#8).cart2Size ∧
    { sample 0xAA#8 with cart2Size := 0xFFFF }.cart2Size ≤ (0xFFFF#16).toNat ∧
    ((0xC0#8).toNat >>> (2 * ((0xC000#16).toNat / 0x4000))) &&& 3 = 3 :=
  ⟨fun _ => ⟨rfl, rfl, rfl⟩, by decide⟩

theorem witness_MemoryWriteStoresThroughTheMask : (47 : Fin 64).val = (0xBFFF#16).toNat / 0x400 ∧
    (48 : Fin 64).val = (0xC000#16).toNat / 0x400 ∧ (sample 0x36#8).pt[(48 : Fin 64)].wmask = 0x00#8 ∧
    (sample 0x36#8).pt[(47 : Fin 64)].wmask = 0xFF#8 ∧ (sample 0x36#8).pt[(47 : Fin 64)].region = .ram ∧
    ((0x20#8).toNat >>> (2 * ((0xBFFF#16).toNat / 0x4000))) &&& 3 ≠ 3 ∧
    ((0x30#8).toNat >>> (2 * ((0xBFFF#16).toNat / 0x4000))) &&& 3 = 3 := by decide

theorem witness_MemoryWriteStoresThroughTheMask_current : (sample 0x36#8).pt = build (sample 0x36#8).portA8 := rfl

theorem witness_MemoryWriteMergesBytewise : (translate (sample 0x36#8) 0x8000#16).region = .ram ∧
    (translate (sample 0x36#8) 0x7FFF#16).region ≠ .ram := by decide

theorem witness_MemoryWriteIsSeenOnlyAtItsAddress : (sample 0x36#8).pt = build (sample 0x36#8).portA8 ∧
    (∃ s1, exec (.memWr 0x8000#16 0x22#8) (sample 0x36#8) = .next s1) ∧
    (∃ s1, exec (.memWr 0xC000#16 0x22#8) (sample 0x36#8) = .next s1) ∧
    ((0x36#8).toNat >>> (2 * ((0x8000#16).toNat / 0x4000))) &&& 3 = 3 ∧
    ((0x36#8).toNat >>> (2 * ((0xC000#16).toNat / 0x4000))) &&& 3 ≠ 3 :=
  ⟨rfl, ⟨_, rfl⟩, ⟨_, rfl⟩, by decide⟩

theorem witness_RomsAndPlaceholderNeverChange :
    ∃ s', step (pending 0x36#8 [.memWr 0x8000#16 0x22#8]) = .next s' := ⟨_, rfl⟩

theorem witness_OnlyNamedInstructionsChangeState : (∃ s', exec (.memWr 0x8000#16 0x22#8) (sample 0x36#8) = .next s') ∧
    (∃ s', exec (.memRd 0xC000#16) (shortCart 0x40#8) = .next s') ∧
    (encode (.memWr 0x8000#16 0x22#8)).selector.getLsbD 16 = true := ⟨⟨_, rfl⟩, ⟨_, rfl⟩, by decide⟩

theorem witness_FaultOnlyFromAnAbsentCartridgeByte : { shortCart 0x40#8 with bus := issue [.memRd 0xC000#16] }.fault = none ∧
    (nextState (step { shortCart 0x40#8 with bus := issue [.memRd 0xC000#16] })).map (·.fault) =
      some (some (.regionBounds .cart1 0xC000)) := by decide

/-- The invariant holds of a state with bytes in every region and an instruction pending. -/
theorem witness_Inv : (pending 0xFF#8 [.memWr 0x1234#16 0xA5#8]).Inv := ⟨rfl, by decide⟩

theorem witness_WholeImagesNeverFault : (pending 0xFF#8 [.memWr 0x1234#16 0xA5#8]).Inv ∧
    (sample 0xFF#8).fault = none ∧ 0x10000 ≤ (sample 0xFF#8).cart1Size ∧ 0x10000 ≤ (sample 0xFF#8).cart2Size :=
  ⟨witness_Inv, by decide⟩

theorem witness_LaunchIsRefusedExactlyWhenUnwired :
    (∃ c, { fullLaunch with unmapped := none }.start = .refused (.unwired c)) ∧
    { fullLaunch with unmapped := none }.unmapped = none := ⟨⟨_, rfl⟩, rfl⟩

theorem witness_ResetMeetsTheInvariant : Params.blank.sound ∧
    { Params.blank with cart1Rom := [(0xBFFF, 0x00#8)], cart1Size := 0xC000, cart2Size := 0xC000 }.sound := by decide

theorem witness_StepKeepsTheInvariant : (pending 0xFF#8 [.memWr 0x1234#16 0xA5#8]).Inv ∧
    ∃ s', step (pending 0xFF#8 [.memWr 0x1234#16 0xA5#8]) = .next s' := ⟨witness_Inv, ⟨_, rfl⟩⟩

/-- A run of one step that takes a write of 0x1234 and stops before a pending write of 0x8000. -/
theorem witness_RamByteIsKeptUntilWritten :
    (pending 0xFF#8 [.memWr 0x1234#16 0xA5#8, .memWr 0x8000#16 0x22#8]).Inv ∧
    (∃ s', Host.Core.run Sys2Proof.core 1 (pending 0xFF#8 [.memWr 0x1234#16 0xA5#8, .memWr 0x8000#16 0x22#8]) =
      .next s') ∧
    ∀ t, BusEvent.transaction t ∈ (pending 0xFF#8 [.memWr 0x1234#16 0xA5#8, .memWr 0x8000#16 0x22#8]).bus.take 1 →
      ∀ (a : Addr) (v : Byte), decode t = .memWr a v → a.toNat ≠ 0x8000 := by
  refine ⟨⟨rfl, by decide⟩, ⟨_, rfl⟩, fun t ht a v h => ?_⟩
  have ht' : t = encode (.memWr 0x1234#16 0xA5#8) := by simpa [pending, issue] using ht
  have hd : decode (encode (.memWr 0x1234#16 0xA5#8)) = .memWr 0x1234#16 0xA5#8 := by decide
  rw [ht', hd] at h
  cases h
  decide

/-- RAM everywhere, a write of 0x1234, a remap to RAM in quadrant 0 alone, a read of 0x1234. -/
def overlay : State := pending 0xFF#8 [.memWr 0x1234#16 0xA5#8, .outMapctl 0x00#8 0x03#8, .memRd 0x1234#16]

/-- `overlay` after the write and the remap. -/
def overlay' : State := { sample 0x03#8 with
  ram := [(0x1234, 0xA5#8), (0x8000, 0xD1#8), (0xBFFF, 0xD2#8)], bus := issue [.memRd 0x1234#16] }

theorem witness_RamReadReturnsTheMostRecentWrite : overlay.Inv ∧ overlay.fault = none ∧
    overlay.bus = .transaction (encode (.memWr 0x1234#16 0xA5#8)) ::
      ([.transaction (encode (.outMapctl 0x00#8 0x03#8))] ++ .transaction (encode (.memRd 0x1234#16)) :: []) ∧
    decode (encode (.memWr 0x1234#16 0xA5#8)) = .memWr 0x1234#16 0xA5#8 ∧
    decode (encode (.memRd 0x1234#16)) = .memRd 0x1234#16 ∧
    (∀ t, BusEvent.transaction t ∈ [.transaction (encode (.outMapctl 0x00#8 0x03#8))] →
      ∀ w, decode t ≠ .memWr 0x1234#16 w) ∧
    (overlay.portA8.toNat >>> (2 * ((0x1234#16).toNat / 0x4000))) &&& 3 = 3 ∧
    overlay.runsTo 2 overlay' ∧
    (overlay'.portA8.toNat >>> (2 * ((0x1234#16).toNat / 0x4000))) &&& 3 = 3 ∧
    ∃ s2, step overlay' = .next s2 := by
  refine ⟨⟨rfl, by decide⟩, rfl, rfl, by decide, by decide, fun t ht w h => ?_, by decide, ⟨rfl, rfl⟩, by decide, ⟨_, rfl⟩⟩
  have ht' : t = encode (.outMapctl 0x00#8 0x03#8) := by simpa using ht
  have hd : decode (encode (.outMapctl 0x00#8 0x03#8)) = .outMapctl 0x00#8 0x03#8 := by decide
  rw [ht', hd] at h
  cases h

theorem witness_ControllerBytesReachOnlyTheMultiplex : (∀ h v, Instr.inSndData 0x00#8 ≠ .outSndWrite h v) ∧
    (selected 0xE#4 0x00#8).sndSel ≠ 0xF#4 := by
  refine ⟨?_, by decide⟩
  intro h v e
  cases e

/-- A state with a pseudo-transaction's expansion pending. -/
def pendingPseudo (x : Pseudo) : State := { sample 0x00#8 with bus := issue (expandPseudo x) }

theorem witness_PseudoTransactionsDoWhatTheySay :
    (∀ x, (pendingPseudo x).fault = none ∧ (pendingPseudo x).bus = issue (expandPseudo x) ++ []) ∧
    (0x1F#8).extractLsb' 0 4 = 0xF#4 ∧ (0x1E#8).extractLsb' 0 4 = 0xE#4 ∧
    (0xFD#8).extractLsb' 0 4 ≠ 0xE#4 ∧ (0xFD#8).extractLsb' 0 4 ≠ 0xF#4 :=
  ⟨fun _ => ⟨rfl, (List.append_nil _).symm⟩, by decide⟩

end Sys2Proof.Tests
end

/-! PROOFS. The state family (10_state.md): what a step can do to the mapping and to the regions, said once, and the
obligations that follow from it. -/

namespace Sys2Proof.Machine

/-! ### Taking a transaction -/

/-- Exactly the I/O writes whose port has bits 7:0 equal to 0xA8 are OUT_MAPCTL (30_encoding.md R83, R86). -/
theorem decode_eq_outMapctl_iff (t : Transaction) (p v : Byte) :
    decode t = .outMapctl p v ↔ t = ⟨selectorOf 0b01#2 (portOf p 0xA8#8), v⟩ := by
  constructor
  · intro h
    obtain ⟨low, ht | ht | ht | ht⟩ := transaction_kinds t <;> rw [ht] at h
    · rw [decode_read, decodeRead] at h
      split_ifs at h
    · rw [decode_write, decodeWrite] at h
      split_ifs at h with _ _ _ _ hport
      obtain ⟨hp, hv⟩ := Instr.outMapctl.inj h
      rw [ht, hv, ← hp, ← hport, portOf_parts]
    · rw [decode_memRd] at h
      cases h
    · rw [decode_memWr] at h
      cases h
  · rintro rfl
    simp [decodeWrite]

/-- The read of port 0xA8 decodes to IN_MAPCTL, whatever its upper bits (30_encoding.md R83, R85). -/
theorem decode_inMapctl (p d : Byte) : decode ⟨selectorOf 0b00#2 (portOf p 0xA8#8), d⟩ = .inMapctl p := by
  simp [decodeRead]

theorem step_transaction {s : State} {t : Transaction} {rest : List BusEvent} (hf : s.fault = none)
    (hb : s.bus = .transaction t :: rest) : step s = exec (decode t) (beginTransaction rest s) := by
  simp [step, hf, hb]

theorem exec_inMapctl (p : Byte) (s : State) : exec (.inMapctl p) s = .next { s with result := some s.portA8 } := rfl

theorem exec_outMapctl (p v : Byte) (s : State) :
    exec (.outMapctl p v) s = .next { s with portA8 := v, pt := build v } := rfl

/-! ### What a step can do to the mapping and to the regions -/

/-- Nothing of the mapping or of any region differs: what every step leaves but an OUT_MAPCTL and a stored MEM_WR. -/
structure SameMapAndRegions (s s' : State) : Prop where
  portA8    : s'.portA8 = s.portA8
  pt        : s'.pt = s.pt
  contents  : ∀ r, s'.contents r = s.contents r
  cart1Size : s'.cart1Size = s.cart1Size
  cart2Size : s'.cart2Size = s.cart2Size

/-- Writing fields outside the mapping and the regions keeps both. -/
theorem sameMapAndRegions_of_units (s : State) (sel : BitVec 4) (regs : Vector Byte 16) (u : VdpState) (c1 c2 : Byte)
    (f : Option Fault) (events : List BusEvent) (b : Option Byte) :
    SameMapAndRegions s { s with
      sndSel := sel, sndReg := regs, vdp := u, ctrl1 := c1, ctrl2 := c2, fault := f, bus := events, result := b } :=
  ⟨rfl, rfl, fun r => by cases r <;> rfl, rfl, rfl⟩

/-- Taking a transaction from the queue is no change of the mapping or of a region. -/
theorem SameMapAndRegions.of_beginTransaction {s s' : State} {rest : List BusEvent}
    (h : SameMapAndRegions (beginTransaction rest s) s') : SameMapAndRegions s s' :=
  ⟨h.portA8, h.pt, fun r => (h.contents r).trans (by cases r <;> rfl), h.cart1Size, h.cart2Size⟩

/-- An instruction keeps the mapping and the regions, or is OUT_MAPCTL, or is a MEM_WR that stores one byte of RAM. -/
theorem exec_next_cases {i : Instr} {s s' : State} (h : exec i s = .next s') :
    SameMapAndRegions s s' ∨
    (∃ p v, i = .outMapctl p v ∧ s' = { s with portA8 := v, pt := build v }) ∨
    (∃ a v b, i = .memWr a v ∧ (translate s a).region = .ram ∧
      s' = s.withRam (s.ram.write (translate s a).offset b)) := by
  cases i with
  | outMapctl p v =>
    rw [exec_outMapctl] at h
    cases h
    exact .inr (.inl ⟨p, v, rfl, rfl⟩)
  | memWr a v =>
    have h : execMemWr a v s = .next s' := h
    obtain ⟨-, e⟩ | ⟨-, hram, e⟩ := execMemWr_cases a v s <;> rw [e] at h <;> cases h
    · exact .inl (sameMapAndRegions_of_units s ..)
    · exact .inr (.inr ⟨a, v, _, rfl, hram, rfl⟩)
  | memRd a =>
    have h : execMemRd a s = .next s' := h
    obtain ⟨-, e⟩ | ⟨-, e⟩ := execMemRd_cases a s <;> rw [e] at h <;> cases h
    all_goals exact .inl (sameMapAndRegions_of_units s ..)
  | outSndWrite p v =>
    have h : .next (controllerMultiplex (soundWriteSelected v s)) = Host.Outcome.next s' := h
    obtain ⟨-, e⟩ | ⟨-, e⟩ := controllerMultiplex_cases (soundWriteSelected v s) <;> rw [e] at h <;> cases h
    all_goals exact .inl (sameMapAndRegions_of_units s ..)
  | inVdpData | inVdpStatus | inSndData | inMapctl | inPortA9 | inIdle | outVdpData | outVdpControl | outSndSelect
  | outIgnored =>
    cases h
    exact .inl (sameMapAndRegions_of_units s ..)

/-- The same of a step: it keeps the mapping and the regions, or takes a transaction that remaps, or one that stores one
byte of RAM. -/
theorem step_next_cases {s s' : State} (h : step s = .next s') :
    SameMapAndRegions s s' ∨
    (∃ t rest p v, s.bus = .transaction t :: rest ∧ decode t = .outMapctl p v ∧
      s' = { beginTransaction rest s with portA8 := v, pt := build v }) ∨
    (∃ t rest a v b, s.bus = .transaction t :: rest ∧ decode t = .memWr a v ∧ (translate s a).region = .ram ∧
      s' = (beginTransaction rest s).withRam (s.ram.write (translate s a).offset b)) := by
  obtain ⟨f, -, e⟩ | ⟨-, -, e⟩ | ⟨v, rest, -, -, e⟩ | ⟨v, rest, -, -, e⟩ | ⟨t, rest, -, hb, e⟩ := step_cases s
    <;> rw [e] at h
  case inr.inr.inr.inr =>
    obtain hsame | ⟨p, v, hd, rfl⟩ | ⟨a, v, b, hd, hram, rfl⟩ := exec_next_cases h
    · exact .inl hsame.of_beginTransaction
    · exact .inr (.inl ⟨t, rest, p, v, hb, hd, rfl⟩)
    · exact .inr (.inr ⟨t, rest, a, v, b, hb, hd, hram, rfl⟩)
  all_goals cases h
  all_goals exact .inl (sameMapAndRegions_of_units s ..)

/-- Every step keeps the page table current (10_state.md R28). -/
theorem step_keeps_tableCurrent {s s' : State} (hs : s.tableCurrent) (h : step s = .next s') : s'.tableCurrent := by
  obtain hsame | ⟨t, rest, p, v, -, -, rfl⟩ | ⟨t, rest, a, v, b, -, -, -, rfl⟩ := step_next_cases h
  · exact hsame.pt.trans (hs.trans (congrArg build hsame.portA8.symm))
  · rfl
  · exact hs

/-! ### RAM bytes over a run -/

theorem source_offset_of_ram (q : Fin 4) (f : BitVec 2) (h : (source q f).region = .ram) :
    (source q f).offset = 0x4000 * q.val := by
  revert q f; decide

/-- RAM is mapped at its own addresses: while the table is current, an address that reaches RAM reaches the byte of its
own number (43_bank_mapper.md R163, R165). -/
theorem translate_offset_of_ram {s : State} {a : Addr} (hs : s.tableCurrent) (h : (translate s a).region = .ram) :
    (translate s a).offset = a.toNat := by
  simp only [translate_eq, hs, build_getElem, buildEntry, windowOf_region] at h ⊢
  have hq := quadrantOfPage_pageIndex a
  have hoff := source_offset_of_ram _ _ h
  simp only [windowOf, h, hoff, hq, pageIndex_val, pageOffset_eq, reduceCtorEq, if_false]
  omega

/-- No transaction among the events is a memory write to the address with number `off`. -/
def NoWriteTo (off : Nat) (events : List BusEvent) : Prop :=
  ∀ t, BusEvent.transaction t ∈ events → ∀ (a : Addr) (v : Byte), decode t = .memWr a v → a.toNat ≠ off

/-- The key fact for one step: RAM changes only at the address of the memory write it takes (10_state.md R33). -/
theorem step_keeps_ram_byte {s s' : State} {off : Nat} (hs : s.tableCurrent) (h : step s = .next s')
    (hno : NoWriteTo off (s.bus.take 1)) : s'.byteAt .ram off = s.byteAt .ram off := by
  obtain hsame | ⟨t, rest, p, v, -, -, rfl⟩ | ⟨t, rest, a, v, b, hb, hd, hram, rfl⟩ := step_next_cases h
  · exact congrArg (Memory.read · off) (hsame.contents .ram)
  · rfl
  · have hne : off ≠ (translate s a).offset := by
      rw [translate_offset_of_ram hs hram]
      exact (hno t (by simp [hb]) a v hd).symm
    exact Memory.read_write_other b hne

/-- The same over any number of steps. -/
theorem run_keeps_ram_byte {k : Nat} {s s' : State} {off : Nat} (hs : s.tableCurrent)
    (hrun : Host.Core.run Sys2Proof.core k s = .next s') (hno : NoWriteTo off (s.bus.take k)) :
    s'.byteAt .ram off = s.byteAt .ram off := by
  induction k generalizing s with
  | zero => cases hrun; rfl
  | succ k ih =>
    rw [run_succ] at hrun
    split at hrun
    next s1 hstep =>
      have hfirst : s1.byteAt .ram off = s.byteAt .ram off :=
        step_keeps_ram_byte hs hstep fun t ht => hno t (List.take_subset_take_left _ (by omega) ht)
      have hrest : NoWriteTo off (s1.bus.take k) := by
        rw [step_bus s s1 hstep]
        exact fun t ht => hno t (List.mem_of_mem_tail (by rwa [List.tail_take_eq_take_tail, Nat.add_sub_cancel]))
      exact (ih (step_keeps_tableCurrent hs hstep) hrun hrest).trans hfirst
    all_goals cases hrun

/-- Settles O46: the invariant keeps the table current, so each step stores at most at the address it writes, and the
run follows by induction on its length. -/
theorem ramByteIsKeptUntilWritten : Obligations.RamByteIsKeptUntilWritten :=
  fun _ _ _ _ hinv hrun hno => run_keeps_ram_byte hinv.1 hrun hno

/-! ### The mapping and the fixed regions -/

/-- Issued a write of `v` to port 0xA8, a step stores the byte and rebuilds the table (42_port_writes.md R136). -/
theorem step_outMapctl {s : State} {p v : Byte} {rest : List BusEvent} (hf : s.fault = none)
    (hb : s.bus = .transaction ⟨selectorOf 0b01#2 (portOf p 0xA8#8), v⟩ :: rest) :
    step s = .next { s with portA8 := v, pt := build v, bus := rest, result := none } := by
  rw [step_transaction hf hb, (decode_eq_outMapctl_iff _ p v).mpr rfl, exec_outMapctl]
  rfl

/-- Issued a read of port 0xA8, a step returns PortA8 (41_port_reads.md R114). -/
theorem step_inMapctl {s : State} {p d : Byte} {rest : List BusEvent} (hf : s.fault = none)
    (hb : s.bus = .transaction ⟨selectorOf 0b00#2 (portOf p 0xA8#8), d⟩ :: rest) :
    step s = .next { s with bus := rest, result := some s.portA8 } := by
  rw [step_transaction hf hb, decode_inMapctl, exec_inMapctl]
  rfl

/-- A write of `v` to port 0xA8 and a read of it, whatever the upper port bits, run to a state that returned `v`. -/
theorem run_write_read_mapctl (s : State) (p p' v d : Byte) (rest : List BusEvent) (hf : s.fault = none)
    (hb : s.bus = .transaction ⟨selectorOf 0b01#2 (portOf p 0xA8#8), v⟩ ::
      .transaction ⟨selectorOf 0b00#2 (portOf p' 0xA8#8), d⟩ :: rest) :
    Host.Core.run Sys2Proof.core 2 s =
      .next { s with portA8 := v, pt := build v, bus := rest, result := some v } := by
  rw [run_succ_next (step_outMapctl hf hb)]
  exact run_succ_next (step_inMapctl hf rfl)

/-- Settles O15: the two rows' equations, the instruction's case lemma for the frame, and the two steps of the round
trip. -/
theorem controlRegisterReadsBackVerbatim : Obligations.ControlRegisterReadsBackVerbatim := by
  refine ⟨exec_inMapctl, exec_outMapctl, fun i s s' h hi => ?_, fun s p p' v d rest hf hb =>
    ⟨_, run_write_read_mapctl s p p' v d rest hf hb, rfl, rfl, rfl⟩⟩
  obtain hsame | ⟨p, v, rfl, -⟩ | ⟨a, v, b, -, -, rfl⟩ := exec_next_cases h
  · exact hsame.portA8
  · exact absurd rfl (hi p v)
  · rfl

/-- Settles O27: of the three things a step can do, only taking an OUT_MAPCTL touches the mapping, and only an I/O write
to 0xA8 decodes to one. -/
theorem onlyMapperWritesChangeTheMapping : Obligations.OnlyMapperWritesChangeTheMapping := by
  intro s s' h
  obtain hsame | ⟨t, rest, p, v, hb, hd, rfl⟩ | ⟨t, rest, a, v, b, -, -, -, rfl⟩ := step_next_cases h
  · exact .inl ⟨hsame.portA8, hsame.pt⟩
  · rw [(decode_eq_outMapctl_iff t p v).mp hd] at hb
    exact .inr ⟨p, v, rest, hb, rfl, rfl⟩
  · exact .inl ⟨rfl, rfl⟩

/-- Settles O28: reset builds the table from its own PortA8, and every step keeps it current. -/
theorem pageTableStaysCurrent : Obligations.PageTableStaysCurrent :=
  ⟨fun _ => rfl, fun _ _ hs h => step_keeps_tableCurrent hs h⟩

/-- Settles O37: a step that stores anything stores to RAM. -/
theorem romsAndPlaceholderNeverChange : Obligations.RomsAndPlaceholderNeverChange := by
  intro s s' h
  obtain hsame | ⟨t, rest, p, v, -, -, rfl⟩ | ⟨t, rest, a, v, b, -, -, -, rfl⟩ := step_next_cases h
  · exact ⟨fun r off _ => congrArg (Memory.read · off) (hsame.contents r), hsame.cart1Size, hsame.cart2Size⟩
  · exact ⟨fun r off _ => by cases r <;> rfl, rfl, rfl⟩
  · refine ⟨fun r off hr => ?_, rfl, rfl⟩
    have hstore := byteAt_withRam_write (beginTransaction rest s) (translate s a).offset b r off
    rw [if_neg fun hram => hr hram.1] at hstore
    exact hstore.trans (by cases r <;> rfl)

/-! ### Reset -/

/-- The table of control value 0x00 (10_state.md R45). -/
theorem buildEntry_zero (e : Fin 64) : buildEntry 0x00#8 e =
    if e.val < 16 then ⟨.boot, 0x400 * e.val, 0x00#8⟩
    else if e.val < 32 then ⟨.basic, 0x400 * (e.val - 16), 0x00#8⟩
    else ⟨.unmapped, 0, 0x00#8⟩ := by
  revert e; decide

/-- Settles O41: the fields as `resetWith` gives them, the table entry by entry, and OUT_MAPCTL's equation at 0x00. -/
theorem resetLeavesTheParameters : Obligations.ResetLeavesTheParameters := by
  refine fun p => ⟨by simp [initPortA8], fun e => ?_, fun h s => exec_outMapctl h 0x00#8 s⟩
  rw [State.resetWith_pt, build_getElem]
  exact buildEntry_zero e

end Sys2Proof.Machine

/-! PROOFS. The memory family (20_memory.md): where an address lands while the table is current, what MEM_RD and MEM_WR
then do there, and the obligations that follow from it. -/

namespace Sys2Proof.Machine

/-! ### Where an address lands -/

/-- Settles O29: the page index is the quotient by 0x400, the page offset the remainder. -/
theorem translateAddsThePageOffset : Obligations.TranslateAddsThePageOffset := by
  intro s a p hp
  obtain rfl : p = pageIndex a := Fin.ext (hp.trans (pageIndex_val a).symm)
  rw [translate_eq, pageOffset_eq]

/-- The source of the quadrant an address lies in, under a control value (43_bank_mapper.md R162, R163). -/
def addressSource (c : Byte) (a : Addr) : Entry :=
  source (quadrantOfPage (pageIndex a)) (selectField c (quadrantOfPage (pageIndex a)))

/-- A current table holds the window of the address's source at its page (43_bank_mapper.md R161). -/
theorem pt_pageIndex_of_tableCurrent {s : State} (hs : s.tableCurrent) (a : Addr) :
    s.pt[pageIndex a] = windowOf (addressSource s.portA8 a) ((pageIndex a).val % 16) := by
  rw [hs, build_getElem]
  rfl

theorem translate_region {s : State} (hs : s.tableCurrent) (a : Addr) :
    (translate s a).region = (addressSource s.portA8 a).region := by
  rw [translate_eq, pt_pageIndex_of_tableCurrent hs, windowOf_region]

/-- Every page of an unmapped quadrant shows the one placeholder page (43_bank_mapper.md R165). -/
theorem translate_offset_of_unmapped {s : State} {a : Addr} (hs : s.tableCurrent)
    (h : (translate s a).region = .unmapped) : (translate s a).offset = a.toNat % 0x400 := by
  rw [translate_region hs] at h
  simp only [translate_eq, pt_pageIndex_of_tableCurrent hs, windowOf, h, if_true, pageOffset_eq, Nat.zero_add]

/-- How far the addresses that reach a region lie above the offsets they reach: a quadrant for BASIC, which quadrant 1
alone maps from its offset 0, and nothing for the others (43_bank_mapper.md R163). No lemma uses it of UNMAPPED. -/
def Region.base : Region → Nat
  | .basic => 0x4000
  | .boot | .cart1 | .cart2 | .ram | .unmapped => 0

theorem source_offset_add_base (q : Fin 4) (f : BitVec 2) (h : (source q f).region ≠ .unmapped) :
    (source q f).offset + (source q f).region.base = 0x4000 * q.val := by
  revert q f; decide

/-- Outside unmapped quadrants translation shifts the address by the base of the region it lands in, so the region and
the offset determine the address (20_memory.md R58). -/
theorem translate_offset_add_base {s : State} {a : Addr} (hs : s.tableCurrent)
    (h : (translate s a).region ≠ .unmapped) :
    (translate s a).offset + (translate s a).region.base = a.toNat := by
  rw [translate_region hs] at h
  have hq := quadrantOfPage_pageIndex a
  have hbase : (addressSource s.portA8 a).offset + (addressSource s.portA8 a).region.base = _ :=
    source_offset_add_base _ _ h
  simp only [translate_eq, pt_pageIndex_of_tableCurrent hs, windowOf, h, if_false, pageOffset_eq, pageIndex_val]
  omega

/-- Settles O30: the region's base is common to both addresses, and the placeholder offset is the remainder. -/
theorem distinctAddressesReachDistinctBytes : Obligations.DistinctAddressesReachDistinctBytes := by
  intro s a b hs hregion
  constructor
  · intro hmapped hne hoff
    have ha := translate_offset_add_base hs hmapped
    have hb := translate_offset_add_base hs (hregion ▸ hmapped)
    rw [← hregion, ← hoff, ha] at hb
    exact hne (BitVec.eq_of_toNat_eq hb)
  · intro hunmapped
    rw [translate_offset_of_unmapped hs hunmapped, translate_offset_of_unmapped hs (hregion ▸ hunmapped)]

/-! ### Where RAM is mapped -/

theorem source_region_eq_ram_iff (q : Fin 4) (f : BitVec 2) : (source q f).region = .ram ↔ f = 3#2 := by
  revert q f; decide

/-- An address reaches RAM exactly when the field of its quadrant is 3 (43_bank_mapper.md R163). -/
theorem translate_region_eq_ram_iff {s : State} (hs : s.tableCurrent) (a : Addr) :
    (translate s a).region = .ram ↔ (s.portA8.toNat >>> (2 * (a.toNat / 0x4000))) &&& 3 = 3 := by
  rw [translate_region hs, addressSource, source_region_eq_ram_iff, ← BitVec.toNat_inj, selectField_toNat,
    quadrantOfPage_pageIndex, Nat.and_two_pow_sub_one_eq_mod _ 2]
  rfl

/-- RAM is writable through the whole mask wherever it is mapped (43_bank_mapper.md R164). -/
theorem translate_wmask_of_ram {s : State} {a : Addr} (hs : s.tableCurrent) (h : (translate s a).region = .ram) :
    (translate s a).wmask = 0xFF#8 := by
  rw [translate_region hs] at h
  have hmask : (addressSource s.portA8 a).wmask = if (addressSource s.portA8 a).region = .ram then 0xFF else 0x00 :=
    source_wmask _ _
  simp only [translate_eq, pt_pageIndex_of_tableCurrent hs, windowOf, h, reduceCtorEq, if_false, if_true] at hmask ⊢
  exact hmask

/-! ### Reading and writing memory -/

@[simp] theorem maskMerge_full (old v : Byte) : maskMerge old v 0xFF#8 = v := by
  have hfull : (0xFF#8 : Byte) = BitVec.allOnes 8 := rfl
  rw [maskMerge, hfull, BitVec.and_allOnes, BitVec.not_allOnes, BitVec.and_zero, BitVec.zero_or]

/-- A write to mapped RAM stores its byte at its own address (44_memory_access.md R193). -/
theorem exec_memWr_of_ram {s : State} {a : Addr} (v : Byte) (hs : s.tableCurrent)
    (h : (translate s a).region = .ram) :
    exec (.memWr a v) s = .next (s.withRam (s.ram.write a.toNat v)) := by
  have hmask := translate_wmask_of_ram hs h
  obtain ⟨hno, -⟩ | ⟨-, -, e⟩ := execMemWr_cases a v s
  · simp [hmask, h] at hno
  · rw [hmask, maskMerge_full, translate_offset_of_ram hs h] at e
    exact e

/-- A write that does not reach RAM is discarded (20_memory.md R56). -/
theorem exec_memWr_of_not_ram {s : State} {a : Addr} (v : Byte) (h : (translate s a).region ≠ .ram) :
    exec (.memWr a v) s = .next s := by
  obtain ⟨-, e⟩ | ⟨-, hram, -⟩ := execMemWr_cases a v s
  · exact e
  · exact absurd hram h

/-- A read of mapped RAM returns the byte of its own address (44_memory_access.md R190). -/
theorem exec_memRd_of_ram {s : State} {a : Addr} (hs : s.tableCurrent) (h : (translate s a).region = .ram) :
    exec (.memRd a) s = .next { s with result := some (s.byteAt .ram a.toNat) } := by
  obtain ⟨-, e⟩ | ⟨habsent, -⟩ := execMemRd_cases a s
  · rw [h, translate_offset_of_ram hs h] at e
    exact e
  · simp [h, State.absent] at habsent

theorem byteAt_ram_withRam_write (s : State) (off : Nat) (v : Byte) :
    (s.withRam (s.ram.write off v)).byteAt .ram off = v :=
  Memory.read_write_same s.ram off v

/-- A read completes, and it gives the same byte or the same mark whatever else RAM holds, as long as the byte its
translation gives is the same. -/
theorem exec_memRd_withRam {s : State} {b : Addr} {m : Memory}
    (h : (s.withRam m).byteAt (translate s b).region (translate s b).offset =
      s.byteAt (translate s b).region (translate s b).offset) :
    ∃ s2, exec (.memRd b) s = .next s2 ∧
      exec (.memRd b) (s.withRam m) = .next { s.withRam m with result := s2.result, fault := s2.fault } := by
  have htr : translate (s.withRam m) b = translate s b := rfl
  have habs : ∀ r off, (s.withRam m).absent r off = s.absent r off := fun r off => by cases r <;> rfl
  have hread := execMemRd_cases b (s.withRam m)
  rw [htr, habs, h] at hread
  obtain ⟨hpresent, e⟩ | ⟨habsent, e⟩ := execMemRd_cases b s
  · obtain ⟨-, e'⟩ | ⟨habsent, -⟩ := hread
    · exact ⟨_, e, e'⟩
    · simp [hpresent] at habsent
  · obtain ⟨hpresent, -⟩ | ⟨-, e'⟩ := hread
    · simp [habsent] at hpresent
    · exact ⟨_, e, e'⟩

/-- Settles O36: a write stores at its own address or nothing, and the byte another address reaches is another one. -/
theorem memoryWriteIsSeenOnlyAtItsAddress : Obligations.MemoryWriteIsSeenOnlyAtItsAddress := by
  intro s s1 a b v hs hwrite
  rw [ne_eq, ne_eq, ← translate_region_eq_ram_iff hs]
  by_cases hram : (translate s a).region = .ram
  · rw [exec_memWr_of_ram v hs hram] at hwrite
    cases hwrite
    constructor
    · rintro rfl -
      have hread := exec_memRd_of_ram (s := s.withRam (s.ram.write b.toNat v)) hs hram
      rwa [byteAt_ram_withRam_write] at hread
    · rintro (hne | hnot)
      · refine exec_memRd_withRam ?_
        rw [byteAt_withRam_write, if_neg]
        rintro ⟨hregion, hoff⟩
        rw [translate_offset_of_ram hs hregion] at hoff
        exact hne (BitVec.eq_of_toNat_eq hoff)
      · exact absurd hram hnot
  · rw [exec_memWr_of_not_ram v hram] at hwrite
    cases hwrite
    exact ⟨fun _ h => absurd h hram, fun _ => exec_memRd_withRam (m := s.ram) rfl⟩

/-! ### A read after a write, with a run between -/

/-- A run takes its events from the head of the queue, one a step. -/
theorem run_bus {k : Nat} {s s' : State} (hrun : Host.Core.run Sys2Proof.core k s = .next s') :
    s'.bus = s.bus.drop k := by
  induction k generalizing s with
  | zero => cases hrun; rfl
  | succ k ih =>
    rw [run_succ] at hrun
    split at hrun
    next s1 hstep => rw [ih hrun, step_bus s s1 hstep, List.drop_tail]
    all_goals cases hrun

/-- Issued a write of mapped RAM, a step stores the byte at its address. -/
theorem step_memWr_of_ram {s : State} {t : Transaction} {rest : List BusEvent} {a : Addr} {v : Byte}
    (hs : s.tableCurrent) (hf : s.fault = none) (hb : s.bus = .transaction t :: rest) (hd : decode t = .memWr a v)
    (hram : (translate s a).region = .ram) :
    ∃ s', step s = .next s' ∧ s'.bus = rest ∧ s'.byteAt .ram a.toNat = v := by
  have hexec := exec_memWr_of_ram (s := beginTransaction rest s) v hs hram
  rw [← hd, ← step_transaction hf hb] at hexec
  exact ⟨_, hexec, rfl, byteAt_ram_withRam_write ..⟩

/-- Issued a read of mapped RAM, a step returns the byte at its address. -/
theorem step_memRd_of_ram {s : State} {t : Transaction} {rest : List BusEvent} {a : Addr}
    (hs : s.tableCurrent) (hf : s.fault = none) (hb : s.bus = .transaction t :: rest) (hd : decode t = .memRd a)
    (hram : (translate s a).region = .ram) :
    step s = .next { s with bus := rest, result := some (s.byteAt .ram a.toNat) } := by
  rw [step_transaction hf hb, hd]
  exact exec_memRd_of_ram (s := beginTransaction rest s) hs hram

theorem noWriteTo_of_decode_ne {a : Addr} {events : List BusEvent}
    (h : ∀ t, BusEvent.transaction t ∈ events → ∀ w, decode t ≠ .memWr a w) : NoWriteTo a.toNat events := by
  intro t ht b w hd hb
  rw [BitVec.eq_of_toNat_eq hb] at hd
  exact h t ht w hd

/-- Settles O47: the write stores at `a`'s own address, the run between keeps that byte and the table current
(10_state.md R28, R33), and the read returns it. -/
theorem ramReadReturnsTheMostRecentWrite : Obligations.RamReadReturnsTheMostRecentWrite := by
  intro s s1 s2 a v tw tr between rest ⟨hs, _⟩ hf hb hdw hdr hno hram ⟨hrun, hf1⟩ hram1 hread
  obtain ⟨sw, hstep, hbus, hbyte⟩ :=
    step_memWr_of_ram hs hf hb hdw ((translate_region_eq_ram_iff hs a).mpr hram)
  rw [run_succ_next hstep] at hrun
  have hsw : sw.tableCurrent := step_keeps_tableCurrent hs hstep
  have hs1 : s1.tableCurrent := run_keeps (fun _ _ => step_keeps_tableCurrent) hsw hrun
  have hb1 : s1.bus = .transaction tr :: rest := by rw [run_bus hrun, hbus, List.drop_left]
  have hfree : NoWriteTo a.toNat (sw.bus.take between.length) := by
    rw [hbus, List.take_left]
    exact noWriteTo_of_decode_ne hno
  have hkept : s1.byteAt .ram a.toNat = v := (run_keeps_ram_byte hsw hrun hfree).trans hbyte
  rw [step_memRd_of_ram hs1 hf1 hb1 hdr ((translate_region_eq_ram_iff hs1 a).mpr hram1), hkept] at hread
  cases hread
  exact ⟨rfl, rfl⟩

end Sys2Proof.Machine

/-! PROOFS. The encoding family (30_encoding.md): what the port decode makes of each kind of selector word, which row of
the opcode table is taken, what the sound transactions do one at a time, and the obligations that follow. -/

namespace Sys2Proof.Machine

/-! ### The case tables -/

/-- Settles O4: a selector's low bits are its port, and a port's parts are the bytes it is built from. -/
theorem portDecodeFollowsTheCaseTables : Obligations.PortDecodeFollowsTheCaseTables := by
  constructor <;> intro h p v
  · rw [decode_read, decodeRead, decodedPort_portOf, upperPort_portOf]
  · rw [decode_write, decodeWrite, decodedPort_portOf, upperPort_portOf]

theorem decode_outSndSelect (p v : Byte) :
    decode ⟨selectorOf 0b01#2 (portOf p 0xA0#8), v⟩ = .outSndSelect p v :=
  portDecodeFollowsTheCaseTables.2 p 0xA0#8 v

theorem decode_outSndWrite (p v : Byte) :
    decode ⟨selectorOf 0b01#2 (portOf p 0xA1#8), v⟩ = .outSndWrite p v :=
  portDecodeFollowsTheCaseTables.2 p 0xA1#8 v

theorem decode_inSndData (p d : Byte) : decode ⟨selectorOf 0b00#2 (portOf p 0xA2#8), d⟩ = .inSndData p :=
  portDecodeFollowsTheCaseTables.1 p 0xA2#8 d

/-- A read of a port outside the read table decodes to IN_IDLE (30_encoding.md R85). -/
theorem decodeRead_of_not_mem {port : Port} (h : decodedPort port ∉ decodedReadPorts) :
    decodeRead port = .inIdle port := by
  simp only [decodedReadPorts, List.mem_cons, List.not_mem_nil, or_false, not_or] at h
  obtain ⟨h98, h99, hA2, hA8, hA9⟩ := h
  rw [decodeRead, if_neg h98, if_neg h99, if_neg hA2, if_neg hA8, if_neg hA9]

/-- A write of a port outside the write table decodes to OUT_IGNORED (30_encoding.md R86). -/
theorem decodeWrite_of_not_mem {port : Port} (v : Byte) (h : decodedPort port ∉ decodedWritePorts) :
    decodeWrite port v = .outIgnored port v := by
  simp only [decodedWritePorts, List.mem_cons, List.not_mem_nil, or_false, not_or] at h
  obtain ⟨h98, h99, hA0, hA1, hA8⟩ := h
  rw [decodeWrite, if_neg h98, if_neg h99, if_neg hA0, if_neg hA1, if_neg hA8]

theorem inIdle_wellFormed_iff (port : Port) :
    (Instr.inIdle port).wellFormed = true ↔ decodedPort port ∉ decodedReadPorts := by
  simp [Instr.wellFormed, decodedPort]

theorem outIgnored_wellFormed_iff (port : Port) (v : Byte) :
    (Instr.outIgnored port v).wellFormed = true ↔ decodedPort port ∉ decodedWritePorts := by
  simp [Instr.wellFormed, decodedPort]

theorem decodeRead_wellFormed (port : Port) : (decodeRead port).wellFormed = true := by
  by_cases hport : decodedPort port ∈ decodedReadPorts
  · unfold decodeRead
    split_ifs with h98 h99 hA2 hA8 hA9
    case neg => simp [decodedReadPorts, h98, h99, hA2, hA8, hA9] at hport
    all_goals rfl
  · rw [decodeRead_of_not_mem hport]
    exact (inIdle_wellFormed_iff port).mpr hport

theorem decodeWrite_wellFormed (port : Port) (v : Byte) : (decodeWrite port v).wellFormed = true := by
  by_cases hport : decodedPort port ∈ decodedWritePorts
  · unfold decodeWrite
    split_ifs with h98 h99 hA0 hA1 hA8
    case neg => simp [decodedWritePorts, h98, h99, hA0, hA1, hA8] at hport
    all_goals rfl
  · rw [decodeWrite_of_not_mem v hport]
    exact (outIgnored_wellFormed_iff port v).mpr hport

theorem decode_wellFormed (t : Transaction) : (decode t).wellFormed = true := by
  obtain ⟨low, ht | ht | ht | ht⟩ := transaction_kinds t <;> rw [ht]
  · rw [decode_read, decodeRead_wellFormed]
  · rw [decode_write, decodeWrite_wellFormed]
  · rw [decode_memRd, Instr.wellFormed]
  · rw [decode_memWr, Instr.wellFormed]

/-! ### The upper port byte -/

/-- The I/O directions are the ones with the space bit clear (30_encoding.md R81). -/
theorem direction_of_io {d : BitVec 2} (h : d.getLsbD 1 = false) : d = 0b00#2 ∨ d = 0b01#2 := by
  revert d; decide

/-- No I/O row reads the upper port byte (30_encoding.md R83): ports with one decoded port are decoded by the same case,
and the two instructions run alike. -/
theorem exec_decode_of_decodedPort_eq {d : BitVec 2} {port port' : Port} (v : Byte) (s : State)
    (hd : d.getLsbD 1 = false) (h : decodedPort port = decodedPort port') :
    exec (decode ⟨selectorOf d port, v⟩) s = exec (decode ⟨selectorOf d port', v⟩) s := by
  obtain rfl | rfl := direction_of_io hd
  · rw [decode_read, decode_read, decodeRead, decodeRead, h]
    split_ifs <;> rfl
  · rw [decode_write, decode_write, decodeWrite, decodeWrite, h]
    split_ifs <;> rfl

/-- Transactions whose instructions run alike in every state are taken alike by a step. -/
theorem step_eq_of_exec_decode_eq {t t' : Transaction} (s : State) (rest : List BusEvent)
    (h : ∀ s, exec (decode t) s = exec (decode t') s) :
    step { s with bus := .transaction t :: rest } = step { s with bus := .transaction t' :: rest } := by
  unfold step
  cases s.fault with
  | some f => rfl
  | none => exact h _

/-- Settles O6: the step by the instructions running alike, the mapper ports by their common decoded port. -/
theorem upperPortBitsAreIgnored : Obligations.UpperPortBitsAreIgnored := by
  constructor
  · intro s d port port' v rest hd hport
    exact step_eq_of_exec_decode_eq s rest fun s => exec_decode_of_decodedPort_eq v s hd hport
  · intro port hmem v
    have hport : decodedPort port = 0xA8#8 := by
      simp only [List.mem_cons, List.not_mem_nil, or_false] at hmem
      obtain rfl | rfl | rfl := hmem <;> rfl
    rw [← portOf_parts port, hport]
    exact ⟨⟨_, decode_inMapctl _ v⟩, ⟨_, (decode_eq_outMapctl_iff _ _ v).mpr rfl⟩⟩

/-! ### The opcode table -/

/-- A row that matches one port of an I/O direction: its mask keeps bits 17:16 and 7:0 (30_encoding.md R82). -/
def portRow (mnemonic : String) (d : BitVec 2) (p : Byte) : OpcodeRow :=
  ⟨mnemonic, selectorOf d (portOf 0#8 p), 0x300FF, false⟩

/-- A row that matches every word of a space and direction: its mask keeps bits 17:16 (30_encoding.md R82). -/
def spaceRow (mnemonic : String) (d : BitVec 2) (isDefault : Bool) : OpcodeRow :=
  ⟨mnemonic, selectorOf d 0#16, 0x30000, isDefault⟩

@[simp] theorem portRow_mnemonic (m : String) (d : BitVec 2) (p : Byte) : (portRow m d p).mnemonic = m := rfl
@[simp] theorem portRow_isDefault (m : String) (d : BitVec 2) (p : Byte) : (portRow m d p).isDefault = false := rfl
@[simp] theorem spaceRow_mnemonic (m : String) (d : BitVec 2) (b : Bool) : (spaceRow m d b).mnemonic = m := rfl
@[simp] theorem spaceRow_isDefault (m : String) (d : BitVec 2) (b : Bool) : (spaceRow m d b).isDefault = b := rfl

/-- The opcode table by its two forms of rows. -/
theorem opcodeRows_eq : opcodeRows =
    [ portRow "IN_VDP_DATA" 0b00#2 0x98#8, portRow "IN_VDP_STATUS" 0b00#2 0x99#8, portRow "IN_SND_DATA" 0b00#2 0xA2#8,
      portRow "IN_MAPCTL" 0b00#2 0xA8#8, portRow "IN_PORT_A9" 0b00#2 0xA9#8, spaceRow "IN_IDLE" 0b00#2 true,
      portRow "OUT_VDP_DATA" 0b01#2 0x98#8, portRow "OUT_VDP_CONTROL" 0b01#2 0x99#8,
      portRow "OUT_SND_SELECT" 0b01#2 0xA0#8, portRow "OUT_SND_WRITE" 0b01#2 0xA1#8, portRow "OUT_MAPCTL" 0b01#2 0xA8#8,
      spaceRow "OUT_IGNORED" 0b01#2 true, spaceRow "MEM_RD" 0b10#2 false, spaceRow "MEM_WR" 0b11#2 false ] := by
  decide

theorem selectorOf_inj {d d' : BitVec 2} {low low' : BitVec 16} :
    selectorOf d low = selectorOf d' low' ↔ d = d' ∧ low = low' := by
  refine ⟨fun h => ⟨?_, ?_⟩, fun ⟨hd, hlow⟩ => by rw [hd, hlow]⟩
  · rw [← selectorOf_high d low, h, selectorOf_high]
  · rw [← selectorOf_low d low, h, selectorOf_low]

theorem portOf_inj_right {h p p' : Byte} : portOf h p = portOf h p' ↔ p = p' :=
  ⟨fun e => by rw [← decodedPort_portOf h p, e, decodedPort_portOf], congrArg _⟩

theorem portRow_fits (m : String) (d d' : BitVec 2) (p : Byte) (port : Port) :
    (portRow m d p).fits (selectorOf d' port) = decide (d' = d ∧ decodedPort port = p) := by
  simp only [portRow, OpcodeRow.fits, selectorOf_and_portMask, beq_eq_decide, selectorOf_inj, portOf_inj_right]

theorem spaceRow_fits (m : String) (d d' : BitVec 2) (b : Bool) (low : BitVec 16) :
    (spaceRow m d b).fits (selectorOf d' low) = decide (d' = d) := by
  simp only [spaceRow, OpcodeRow.fits, selectorOf_and_spaceMask, beq_eq_decide, selectorOf_inj, and_true]

theorem portRow_taken (m : String) (d d' : BitVec 2) (p : Byte) (port : Port) :
    (portRow m d p).taken (selectorOf d' port) = decide (d' = d ∧ decodedPort port = p) := by
  simp [OpcodeRow.taken, portRow_fits]

theorem memoryRow_taken (m : String) (d d' : BitVec 2) (low : BitVec 16) :
    (spaceRow m d false).taken (selectorOf d' low) = decide (d' = d) := by
  simp [OpcodeRow.taken, spaceRow_fits]

/-- The default rows are taken by the ports outside their case table (30_encoding.md R82, R85, R86). -/
theorem inIdleRow_taken (d : BitVec 2) (port : Port) : (spaceRow "IN_IDLE" 0b00#2 true).taken (selectorOf d port) =
    decide (d = 0b00#2 ∧ decodedPort port ∉ decodedReadPorts) := by
  rw [OpcodeRow.taken, spaceRow_fits, opcodeRows_eq]
  by_cases hd : d = 0b00#2
  · simp [hd, portRow_fits, spaceRow_fits, decodedReadPorts]
  · simp [hd]

theorem outIgnoredRow_taken (d : BitVec 2) (port : Port) :
    (spaceRow "OUT_IGNORED" 0b01#2 true).taken (selectorOf d port) =
      decide (d = 0b01#2 ∧ decodedPort port ∉ decodedWritePorts) := by
  rw [OpcodeRow.taken, spaceRow_fits, opcodeRows_eq]
  by_cases hd : d = 0b01#2
  · simp [hd, portRow_fits, spaceRow_fits, decodedWritePorts]
  · simp [hd]

/-- The row the table takes is the row of the decoded instruction (30_encoding.md R82). -/
theorem taken_iff_mnemonic_decode (t : Transaction) :
    ∀ row ∈ opcodeRows, row.taken t.selector = true ↔ row.mnemonic = (decode t).mnemonic := by
  obtain ⟨low, ht | ht | ht | ht⟩ := transaction_kinds t <;> rw [ht, opcodeRows_eq] <;>
    simp only [List.forall_mem_cons, portRow_taken, memoryRow_taken, inIdleRow_taken, outIgnoredRow_taken]
  · rw [decode_read, decodeRead]
    split_ifs <;> simp [*, decodedReadPorts, Instr.mnemonic]
  · rw [decode_write, decodeWrite]
    split_ifs <;> simp [*, decodedWritePorts, Instr.mnemonic]
  · simp [Instr.mnemonic]
  · simp [Instr.mnemonic]

theorem exists_row_of_instr (i : Instr) : ∃ row ∈ opcodeRows, row.mnemonic = i.mnemonic := by
  cases i <;> simp [opcodeRows, Instr.mnemonic]

theorem row_eq_of_mnemonic_eq :
    ∀ row ∈ opcodeRows, ∀ other ∈ opcodeRows, other.mnemonic = row.mnemonic → other = row := by
  decide

/-- Issued a read of a port outside the read table, a step returns 0xFF (30_encoding.md R90). -/
theorem step_inIdle {s : State} {port : Port} {v : Byte} {rest : List BusEvent} (hf : s.fault = none)
    (hb : s.bus = .transaction ⟨selectorOf 0b00#2 port, v⟩ :: rest) (hport : decodedPort port ∉ decodedReadPorts) :
    step s = .next { s with bus := rest, result := some 0xFF#8 } := by
  rw [step_transaction hf hb, decode_read, decodeRead_of_not_mem hport]
  rfl

/-- Issued a write of a port outside the write table, a step only takes it (30_encoding.md R90). -/
theorem step_outIgnored {s : State} {port : Port} {v : Byte} {rest : List BusEvent} (hf : s.fault = none)
    (hb : s.bus = .transaction ⟨selectorOf 0b01#2 port, v⟩ :: rest) (hport : decodedPort port ∉ decodedWritePorts) :
    step s = .next { s with bus := rest, result := none } := by
  rw [step_transaction hf hb, decode_write, decodeWrite_of_not_mem v hport]
  rfl

/-- Settles O11: a row is taken exactly when its mnemonic is the decoded instruction's, and mnemonics tell the rows
apart. -/
theorem everySelectorDecodesToOneRow : Obligations.EverySelectorDecodesToOneRow := by
  refine ⟨fun sel => ?_, fun _ _ _ _ => step_inIdle, fun _ _ _ _ => step_outIgnored⟩
  obtain ⟨row, hrow, hmnemonic⟩ := exists_row_of_instr (decode ⟨sel, 0#8⟩)
  have htaken : row.taken sel = true := (taken_iff_mnemonic_decode ⟨sel, 0#8⟩ row hrow).mpr hmnemonic
  refine ⟨row, hrow, htaken, fun other hother hother_taken => ?_, fun d => ⟨?_, decode_wellFormed _⟩⟩
  · have hsame := (taken_iff_mnemonic_decode ⟨sel, 0#8⟩ other hother).mp hother_taken
    exact row_eq_of_mnemonic_eq row hrow other hother (hsame.trans hmnemonic.symm)
  · exact ((taken_iff_mnemonic_decode ⟨sel, d⟩ row hrow).mp htaken).symm

/-! ### The sound unit's registers -/

theorem storesVerbatim_iff (r : BitVec 4) : storesVerbatim r = true ↔ r = 0xE#4 ∨ r = 0xF#4 := by
  revert r; decide

/-- Registers 0xE and 0xF are read verbatim (10_state.md R38, D8). -/
theorem soundReadSelected_of_verbatim {s : State} (h : s.sndSel = 0xE#4 ∨ s.sndSel = 0xF#4) :
    soundReadSelected s = s.soundReg s.sndSel :=
  if_pos ((storesVerbatim_iff _).mpr h)

/-- Any other register is read through the sound unit's read function (10_state.md R39). -/
theorem soundReadSelected_of_ne {s : State} (hE : s.sndSel ≠ 0xE#4) (hF : s.sndSel ≠ 0xF#4) :
    soundReadSelected s = Config.sndRegRead s.sndSel (s.soundReg s.sndSel) :=
  if_neg fun h => ((storesVerbatim_iff _).mp h).elim hE hF

theorem soundWriteSelected_of_verbatim {s : State} (v : Byte) (h : s.sndSel = 0xE#4 ∨ s.sndSel = 0xF#4) :
    soundWriteSelected v s = s.withSndReg s.sndSel v := by
  rw [soundWriteSelected_eq, if_pos ((storesVerbatim_iff _).mpr h)]

theorem soundWriteSelected_of_ne {s : State} (v : Byte) (hE : s.sndSel ≠ 0xE#4) (hF : s.sndSel ≠ 0xF#4) :
    soundWriteSelected v s = s.withSndReg s.sndSel (Config.sndRegWrite s.sndSel v) := by
  rw [soundWriteSelected_eq, if_neg fun h => ((storesVerbatim_iff _).mp h).elim hE hF]

theorem controllerMultiplex_of_control {s : State} (h : s.sndSel = 0xF#4) :
    controllerMultiplex s = s.withSndReg 0xE#4 (if (s.soundReg 0xF#4).getLsbD 6 then s.ctrl2 else s.ctrl1) :=
  if_pos h

theorem controllerMultiplex_of_ne {s : State} (h : s.sndSel ≠ 0xF#4) : controllerMultiplex s = s := if_neg h

/-- What OUT_SND_WRITE leaves: the forwarded write, then the multiplex (42_port_writes.md R134). -/
def soundWrite (v : Byte) (s : State) : State := controllerMultiplex (soundWriteSelected v s)

/-- A sound write changes no field but the registers (42_port_writes.md R135). -/
theorem soundWrite_frame (v : Byte) (s : State) : soundWrite v s = { s with sndReg := (soundWrite v s).sndReg } := by
  rw [soundWrite]
  obtain ⟨-, e⟩ | ⟨-, e⟩ := controllerMultiplex_cases (soundWriteSelected v s) <;> rw [e] <;> rfl

/-- With register 0xF selected the byte goes there and the controller byte that its bit 6 picks goes to register 0xE. -/
theorem soundWrite_of_control (v : Byte) (s : State) (h : s.sndSel = 0xF#4) :
    (soundWrite v s).soundReg 0xF#4 = v ∧ (soundWrite v s).soundReg 0xE#4 = (if v.getLsbD 6 then s.ctrl2 else s.ctrl1) ∧
      ∀ q, q ≠ 0xE#4 → q ≠ 0xF#4 → (soundWrite v s).soundReg q = s.soundReg q := by
  have hwritten : soundWrite v s =
      (s.withSndReg 0xF#4 v).withSndReg 0xE#4 (if v.getLsbD 6 then s.ctrl2 else s.ctrl1) := by
    rw [soundWrite, soundWriteSelected_of_verbatim v (.inr h), h, controllerMultiplex_of_control (by simp [h]),
      soundReg_withSndReg]
    rfl
  rw [hwritten]
  exact ⟨by simp, by simp, fun q hE hF => by simp [hE, hF]⟩

/-- With register 0xE selected the byte goes there verbatim. -/
theorem soundWrite_of_snapshot (v : Byte) (s : State) (h : s.sndSel = 0xE#4) :
    (soundWrite v s).soundReg 0xE#4 = v ∧ ∀ q, q ≠ 0xE#4 → (soundWrite v s).soundReg q = s.soundReg q := by
  have hwritten : soundWrite v s = s.withSndReg 0xE#4 v := by
    rw [soundWrite, soundWriteSelected_of_verbatim v (.inl h), controllerMultiplex_of_ne (by simp [h]), h]
  rw [hwritten]
  exact ⟨by simp, fun q hE => by simp [hE]⟩

/-- With any other register selected what the sound unit makes of the byte goes there. -/
theorem soundWrite_of_ne (v : Byte) (s : State) (hE : s.sndSel ≠ 0xE#4) (hF : s.sndSel ≠ 0xF#4) :
    (soundWrite v s).soundReg s.sndSel = Config.sndRegWrite s.sndSel v ∧
      ∀ q, q ≠ s.sndSel → (soundWrite v s).soundReg q = s.soundReg q := by
  have hwritten : soundWrite v s = s.withSndReg s.sndSel (Config.sndRegWrite s.sndSel v) := by
    rw [soundWrite, soundWriteSelected_of_ne v hE hF, controllerMultiplex_of_ne (by simpa using hF)]
  rw [hwritten]
  exact ⟨by simp, fun q hq => by simp [hq]⟩

/-! ### The pseudo-transactions (30_encoding.md R95) -/

theorem exec_outSndSelect (p v : Byte) (s : State) :
    exec (.outSndSelect p v) s = .next { s with sndSel := v.extractLsb' 0 4 } := rfl

theorem exec_outSndWrite (p v : Byte) (s : State) : exec (.outSndWrite p v) s = .next (soundWrite v s) := rfl

theorem exec_inSndData (p : Byte) (s : State) :
    exec (.inSndData p) s = .next { s with result := some (soundReadSelected s) } := rfl

/-- The state after a register select is taken: register `r` selected, the rest of the queue pending. -/
def State.afterSelect (s : State) (r : BitVec 4) (rest : List BusEvent) : State :=
  { s with bus := rest, result := none, sndSel := r }

/-- Issued a write of port 0xA0, a step selects the register of its low nibble (42_port_writes.md R133). -/
theorem step_outSndSelect {s : State} {p r : Byte} {rest : List BusEvent} (hf : s.fault = none)
    (hb : s.bus = .transaction ⟨selectorOf 0b01#2 (portOf p 0xA0#8), r⟩ :: rest) :
    step s = .next (s.afterSelect (r.extractLsb' 0 4) rest) := by
  rw [step_transaction hf hb, decode_outSndSelect, exec_outSndSelect]
  rfl

/-- A register select and one more transaction run to what that transaction makes of the selected state. -/
theorem run_select_then {s s' : State} {p r : Byte} {t : Transaction} {i : Instr} {rest : List BusEvent}
    (hf : s.fault = none)
    (hb : s.bus = .transaction ⟨selectorOf 0b01#2 (portOf p 0xA0#8), r⟩ :: .transaction t :: rest)
    (hd : decode t = i) (h : exec i (s.afterSelect (r.extractLsb' 0 4) rest) = .next s') :
    Host.Core.run Sys2Proof.core 2 s = .next s' := by
  rw [run_succ_next (step_outSndSelect hf hb)]
  rw [← hd] at h
  exact run_succ_next ((step_transaction (s := s.afterSelect _ _) hf rfl).trans h)

/-- The run of SNDWR; JOYSEL's expansion is the one with register operand 0x0F. -/
theorem run_sndWr {s : State} {r v : Byte} {rest : List BusEvent} (hf : s.fault = none)
    (hb : s.bus = issue (expandPseudo (.sndWr r v)) ++ rest) :
    s.runsTo 2 (soundWrite v (s.afterSelect (r.extractLsb' 0 4) rest)) := by
  refine ⟨run_select_then hf hb (decode_outSndWrite ..) (exec_outSndWrite ..), ?_⟩
  rw [State.running, soundWrite_frame]
  exact hf

theorem run_sndRd {s : State} {r : Byte} {rest : List BusEvent} (hf : s.fault = none)
    (hb : s.bus = issue (expandPseudo (.sndRd r)) ++ rest) :
    s.runsTo 2 { s.afterSelect (r.extractLsb' 0 4) rest with
      result := some (soundReadSelected (s.afterSelect (r.extractLsb' 0 4) rest)) } :=
  ⟨run_select_then hf hb (decode_inSndData ..) (exec_inSndData ..), hf⟩

/-- Settles O49: each expansion runs one transaction at a time; the registers are as the sound unit's lemmas give them
in the state with the register selected. -/
theorem pseudoTransactionsDoWhatTheySay : Obligations.PseudoTransactionsDoWhatTheySay := by
  refine ⟨fun s v rest hf hb => ?_, fun s r rest hf hb => ?_, fun s r v rest hf hb => ?_, fun s r rest hf hb => ?_,
    fun s v rest hf hb => ?_⟩
  · exact ⟨run_succ_next (step_outMapctl hf hb), hf⟩
  · exact ⟨run_succ_next (step_outSndSelect hf hb), hf⟩
  · exact ⟨_, run_sndWr hf hb, soundWrite_frame .., soundWrite_of_control v (s.afterSelect _ rest),
      soundWrite_of_snapshot v (s.afterSelect _ rest), soundWrite_of_ne v (s.afterSelect _ rest)⟩
  · have hrun := run_sndRd hf hb
    constructor
    · intro hverbatim
      rwa [soundReadSelected_of_verbatim hverbatim] at hrun
    · intro hE hF
      rwa [soundReadSelected_of_ne hE hF] at hrun
  · exact ⟨_, run_sndWr (r := 0x0F#8) hf hb, soundWrite_frame .., soundWrite_of_control v (s.afterSelect _ rest) rfl⟩

end Sys2Proof.Machine

/-! PROOFS. The port-read family (41_port_reads.md): the equation of each read row, what each instruction leaves
unchanged, and the obligations that follow. -/

namespace Sys2Proof.Machine

/-! ### What each instruction leaves unchanged -/

/-- The state `s` with the fields that the row of `i` writes taken from `s'` (41_port_reads.md R110, 42_port_writes.md
R130, 44_memory_access.md R190, R193). -/
def withFieldsWritten (i : Instr) (s s' : State) : State :=
  match i with
  | .inVdpData _ | .inVdpStatus _ => { s with vdp := s'.vdp, result := s'.result }
  | .inSndData _ | .inMapctl _ | .inPortA9 _ | .inIdle _ => { s with result := s'.result }
  | .outVdpData _ _ | .outVdpControl _ _ => { s with vdp := s'.vdp }
  | .outSndSelect _ _ => { s with sndSel := s'.sndSel }
  | .outSndWrite _ _ => { s with sndReg := s'.sndReg }
  | .outMapctl _ _ => { s with portA8 := s'.portA8, pt := s'.pt }
  | .outIgnored _ _ => s
  | .memRd _ => { s with fault := s'.fault, result := s'.result }
  | .memWr _ _ => { s with ram := s'.ram }

/-- An instruction writes the fields of its row and no other. -/
theorem exec_frame {i : Instr} {s s' : State} (h : exec i s = .next s') : s' = withFieldsWritten i s s' := by
  cases i with
  | memRd a =>
    have h : execMemRd a s = .next s' := h
    obtain ⟨-, e⟩ | ⟨-, e⟩ := execMemRd_cases a s <;> rw [e] at h <;> cases h <;> rfl
  | memWr a v =>
    have h : execMemWr a v s = .next s' := h
    obtain ⟨-, e⟩ | ⟨-, -, e⟩ := execMemWr_cases a v s <;> rw [e] at h <;> cases h <;> rfl
  | outSndWrite p v =>
    rw [exec_outSndWrite] at h
    cases h
    exact soundWrite_frame v s
  | inVdpData | inVdpStatus | inSndData | inMapctl | inPortA9 | inIdle | outVdpData | outVdpControl | outSndSelect
  | outMapctl | outIgnored =>
    cases h
    rfl

/-- Bit 16 of a selector tells the writes from the reads (30_encoding.md R81), and no write returns a byte. -/
theorem withFieldsWritten_result_of_write {i : Instr} (s s' : State) (hi : (encode i).selector.getLsbD 16 = true) :
    (withFieldsWritten i s s').result = s.result := by
  cases i with
  | inVdpData | inVdpStatus | inSndData | inMapctl | inPortA9 | inIdle | memRd =>
    rw [encode, selectorOf_direction] at hi
    exact absurd hi (by decide)
  | outVdpData | outVdpControl | outSndSelect | outSndWrite | outMapctl | outIgnored | memWr => rfl

/-- Only MEM_WR has a region among the fields it writes (20_memory.md R63). -/
theorem withFieldsWritten_byteAt {i : Instr} (s s' : State) (hi : ∀ a v, i ≠ .memWr a v) (r : Region) (off : Nat) :
    (withFieldsWritten i s s').byteAt r off = s.byteAt r off := by
  cases i with
  | memWr a v => exact absurd rfl (hi a v)
  | _ => cases r <;> rfl

/-- Settles O38: each part of the state is read off the fields the instruction's row writes. -/
theorem onlyNamedInstructionsChangeState : Obligations.OnlyNamedInstructionsChangeState := by
  intro i s s' h
  rw [exec_frame h]
  refine ⟨withFieldsWritten_byteAt s s', fun hi => ?fault, fun hi => ?mapping, fun hd hs hwd hwc => ?vdp,
    fun hi => ?sndSel, fun hi => ?sndReg, withFieldsWritten_result_of_write s s', ?rest⟩
  case fault =>
    cases i with
    | memRd a => exact absurd rfl (hi a)
    | _ => rfl
  case mapping =>
    cases i with
    | outMapctl p v => exact absurd rfl (hi p v)
    | _ => exact ⟨rfl, rfl⟩
  case vdp =>
    cases i with
    | inVdpData p => exact absurd rfl (hd p)
    | inVdpStatus p => exact absurd rfl (hs p)
    | outVdpData p v => exact absurd rfl (hwd p v)
    | outVdpControl p v => exact absurd rfl (hwc p v)
    | _ => rfl
  case sndSel =>
    cases i with
    | outSndSelect p v => exact absurd rfl (hi p v)
    | _ => rfl
  case sndReg =>
    cases i with
    | outSndWrite p v => exact absurd rfl (hi p v)
    | _ => rfl
  case rest => cases i <;> exact ⟨rfl, rfl, rfl, rfl, rfl⟩

/-! ### The read rows -/

theorem exec_inVdpData (p : Byte) (s : State) : exec (.inVdpData p) s =
    .next { s with vdp := (Config.vdpReadData s.vdp).2, result := some (Config.vdpReadData s.vdp).1 } :=
  congrArg Host.Outcome.next (videoRead_eq Config.vdpReadData s)

theorem exec_inVdpStatus (p : Byte) (s : State) : exec (.inVdpStatus p) s =
    .next { s with vdp := (Config.vdpReadStatus s.vdp).2, result := some (Config.vdpReadStatus s.vdp).1 } :=
  congrArg Host.Outcome.next (videoRead_eq Config.vdpReadStatus s)

theorem exec_inPortA9 (p : Byte) (s : State) : exec (.inPortA9 p) s = .next { s with result := some 0xFF#8 } :=
  congrArg Host.Outcome.next (reply_eq idleValue s)

theorem exec_inIdle (port : Port) (s : State) : exec (.inIdle port) s = .next { s with result := some 0xFF#8 } :=
  congrArg Host.Outcome.next (reply_eq idleValue s)

/-- Settles O13: the equations of the two video rows. -/
theorem videoReadsReturnTheVideoUnitsByte : Obligations.VideoReadsReturnTheVideoUnitsByte :=
  ⟨exec_inVdpData, exec_inVdpStatus⟩

/-- Settles O14: the sound row returns the selected register, read as its number says (10_state.md R38, R39). -/
theorem soundReadReturnsTheSelectedRegister : Obligations.SoundReadReturnsTheSelectedRegister := by
  intro p s
  rw [exec_inSndData]
  constructor
  · intro hverbatim
    rw [soundReadSelected_of_verbatim hverbatim]
  · intro hE hF
    rw [soundReadSelected_of_ne hE hF]

/-- Settles O16: the two idle rows' equations, and the read table at 0xA9 and outside its ports. -/
theorem idleReadsReturnFF : Obligations.IdleReadsReturnFF := by
  refine ⟨exec_inPortA9, exec_inIdle, fun p v => portDecodeFollowsTheCaseTables.1 p 0xA9#8 v, fun port v hport => ?_⟩
  rw [decode_read, decodeRead_of_not_mem hport]

/-- Settles O17: the read table taken row by row; a row other than the video unit's keeps VDP as it is. -/
theorem ioReadReturnsOneByteAndChangesOnlyVdp : Obligations.IoReadReturnsOneByteAndChangesOnlyVdp := by
  intro port s
  rw [← decodedPort, decodeRead]
  split_ifs with h98 h99 hA2 hA8 hA9
  · exact ⟨_, _, exec_inVdpData _ s, by simp [h98]⟩
  · exact ⟨_, _, exec_inVdpStatus _ s, by simp [h99]⟩
  · exact ⟨_, s.vdp, exec_inSndData _ s, by simp [hA2]⟩
  · exact ⟨_, s.vdp, exec_inMapctl _ s, by simp [hA8]⟩
  · exact ⟨_, s.vdp, exec_inPortA9 _ s, by simp [hA9]⟩
  · exact ⟨_, s.vdp, exec_inIdle _ s, by simp [h98, h99, hA2, hA8]⟩

end Sys2Proof.Machine

/-! PROOFS. The port-write family (42_port_writes.md): the equation of each write row, what the controller bytes can
reach, and the obligations that follow. -/

namespace Sys2Proof.Machine

/-! ### The write rows -/

theorem exec_outVdpData (p v : Byte) (s : State) :
    exec (.outVdpData p v) s = .next { s with vdp := Config.vdpWriteData s.vdp v } :=
  congrArg Host.Outcome.next (videoWrite_eq Config.vdpWriteData v s)

theorem exec_outVdpControl (p v : Byte) (s : State) :
    exec (.outVdpControl p v) s = .next { s with vdp := Config.vdpWriteControl s.vdp v } :=
  congrArg Host.Outcome.next (videoWrite_eq Config.vdpWriteControl v s)

theorem exec_outIgnored (port : Port) (v : Byte) (s : State) : exec (.outIgnored port v) s = .next s := rfl

/-- Port 0xA0 drops the high nibble (42_port_writes.md R133). -/
theorem selectOperand_toNat (v : Byte) : (selectOperand v).toNat = v.toNat % 16 := by
  rw [selectOperand, BitVec.extractLsb'_toNat, Nat.shiftRight_zero]

/-- The registers after a sound write: the forwarded write, and with register 0xF selected the controller byte that bit 6
of the stored register 0xF picks, put into register 0xE (42_port_writes.md R134). -/
theorem soundWrite_sndReg (v : Byte) (s : State) : (soundWrite v s).sndReg =
    if s.sndSel = 0xF#4 then
      (soundWriteSelected v s).sndReg.set 0xE
        (if ((soundWriteSelected v s).soundReg 0xF#4).getLsbD 6 then s.ctrl2 else s.ctrl1)
    else (soundWriteSelected v s).sndReg := by
  have hsel : (soundWriteSelected v s).sndSel = s.sndSel := rfl
  by_cases h : s.sndSel = 0xF#4
  · rw [soundWrite, controllerMultiplex_of_control (hsel.trans h), if_pos h]
    rfl
  · rw [soundWrite, controllerMultiplex_of_ne (hsel ▸ h), if_neg h]

/-- The write table, row by row (30_encoding.md R86). -/
theorem decodeWrite_cases (port : Port) (v : Byte) :
    (decodedPort port = 0x98#8 ∧ decodeWrite port v = .outVdpData (upperPort port) v) ∨
    (decodedPort port = 0x99#8 ∧ decodeWrite port v = .outVdpControl (upperPort port) v) ∨
    (decodedPort port = 0xA0#8 ∧ decodeWrite port v = .outSndSelect (upperPort port) v) ∨
    (decodedPort port = 0xA1#8 ∧ decodeWrite port v = .outSndWrite (upperPort port) v) ∨
    (decodedPort port = 0xA8#8 ∧ decodeWrite port v = .outMapctl (upperPort port) v) ∨
    (decodedPort port ∉ decodedWritePorts ∧ decodeWrite port v = .outIgnored port v) := by
  by_cases hport : decodedPort port ∈ decodedWritePorts
  · simp only [decodedWritePorts, List.mem_cons, List.not_mem_nil, or_false] at hport
    obtain h | h | h | h | h := hport <;> simp [decodeWrite, h]
  · simp [hport, decodeWrite_of_not_mem v hport]

/-- The table of control value 0xFF maps RAM everywhere (42_port_writes.md R136). -/
theorem buildEntry_allOnes (p : Fin 64) : buildEntry 0xFF#8 p = ⟨.ram, p.val * 0x400, 0xFF#8⟩ := by
  revert p; decide

/-- Settles O18: the equations of the two video rows. -/
theorem videoWritesForwardTheByte : Obligations.VideoWritesForwardTheByte :=
  ⟨exec_outVdpData, exec_outVdpControl⟩

/-- Settles O19: the row's equation, with the low nibble as a number, and the write table at 0xA0. -/
theorem soundSelectTakesTheLowNibble : Obligations.SoundSelectTakesTheLowNibble :=
  ⟨fun p v s => ⟨_, selectOperand_toNat v, exec_outSndSelect p v s⟩, decode_outSndSelect⟩

/-- Settles O20: the row's equation, and the sound write by the selected register. -/
theorem soundWriteForwardsThenMultiplexes : Obligations.SoundWriteForwardsThenMultiplexes :=
  fun p v s => ⟨_, exec_outSndWrite p v s, soundWrite_frame v s, soundWrite_of_control v s,
    soundWrite_of_snapshot v s, soundWrite_of_ne v s⟩

/-- Settles O21: the row's equation, at the byte already held and at 0xFF. -/
theorem mapperWriteStoresAndRebuilds : Obligations.MapperWriteStoresAndRebuilds := by
  refine ⟨fun p v => (decode_eq_outMapctl_iff _ p v).mpr rfl, exec_outMapctl, fun p s hcurrent => ?_, fun p s =>
    ⟨_, exec_outMapctl p 0xFF#8 s, rfl, fun e => ?_⟩⟩
  · rw [exec_outMapctl, ← hcurrent]
  · rw [build_getElem, buildEntry_allOnes]

/-- Settles O22: the row's equation, and the write table outside its ports. -/
theorem ignoredWritesChangeNothing : Obligations.IgnoredWritesChangeNothing := by
  refine ⟨exec_outIgnored, fun port v hport => ?_⟩
  rw [decode_write, decodeWrite_of_not_mem v hport]

/-- Settles O23: the write table taken row by row; each row's equation names the fields it writes. -/
theorem ioWriteHasOnlyItsRowsEffect : Obligations.IoWriteHasOnlyItsRowsEffect := by
  intro port v s
  rw [← decodedPort]
  obtain ⟨hport, e⟩ | ⟨hport, e⟩ | ⟨hport, e⟩ | ⟨hport, e⟩ | ⟨hport, e⟩ | ⟨hport, e⟩ := decodeWrite_cases port v
    <;> rw [e]
  · exact ⟨_, exec_outVdpData _ v s, rfl, by simp [hport]⟩
  · exact ⟨_, exec_outVdpControl _ v s, rfl, by simp [hport]⟩
  · exact ⟨_, exec_outSndSelect _ v s, rfl, by simp [hport]⟩
  · refine ⟨_, exec_outSndWrite _ v s, ?_⟩
    rw [soundWrite_frame, soundWrite_sndReg]
    exact ⟨rfl, by simp [hport]⟩
  · exact ⟨_, exec_outMapctl _ v s, rfl, by simp [hport]⟩
  · simp only [decodedWritePorts, List.mem_cons, List.not_mem_nil, or_false, not_or] at hport
    exact ⟨_, exec_outIgnored port v s, rfl, by simp [hport]⟩

/-! ### What the controller bytes can reach -/

/-- The state with other controller bytes (10_state.md R35). -/
def State.withControllers (s : State) (x y : Byte) : State := { s with ctrl1 := x, ctrl2 := y }

theorem regionRead_withControllers (s : State) (x y : Byte) (r : Region) (off : Nat) :
    regionRead (s.withControllers x y) r off = regionRead s r off := by
  cases r <;> rfl

theorem regionWrite_withControllers (s : State) (x y : Byte) (r : Region) (off : Nat) (v : Byte) :
    regionWrite (s.withControllers x y) r off v = (regionWrite s r off v).withControllers x y := by
  cases r <;> rfl

theorem byteAt_withControllers (s : State) (x y : Byte) (r : Region) (off : Nat) :
    (s.withControllers x y).byteAt r off = s.byteAt r off := by
  cases r <;> rfl

theorem translate_withControllers (s : State) (x y : Byte) (a : Addr) :
    translate (s.withControllers x y) a = translate s a := rfl

theorem execMemRd_withControllers {a : Addr} {s s' : State} (x y : Byte) (h : execMemRd a s = .next s') :
    execMemRd a (s.withControllers x y) = .next (s'.withControllers x y) := by
  rw [execMemRd] at h ⊢
  rw [translate_withControllers, regionRead_withControllers]
  cases hread : regionRead s (translate s a).region (translate s a).offset <;> rw [hread] at h <;> cases h <;> rfl

theorem execMemWr_withControllers {a : Addr} {v : Byte} {s s' : State} (x y : Byte)
    (h : execMemWr a v s = .next s') :
    execMemWr a v (s.withControllers x y) = .next (s'.withControllers x y) := by
  simp only [execMemWr, translate_withControllers, byteAt_withControllers, regionWrite_withControllers] at h ⊢
  split_ifs at h ⊢ <;> cases h <;> rfl

/-- With any register but 0xF selected a sound write is the forwarded write alone (42_port_writes.md R134). -/
theorem soundWrite_of_ne_control {s : State} (v : Byte) (h : s.sndSel ≠ 0xF#4) :
    soundWrite v s = soundWriteSelected v s :=
  controllerMultiplex_of_ne (s := soundWriteSelected v s) h

theorem soundWrite_withControllers {s : State} (v x y : Byte) (h : s.sndSel ≠ 0xF#4) :
    soundWrite v (s.withControllers x y) = (soundWrite v s).withControllers x y := by
  have hsel : (s.withControllers x y).sndSel ≠ 0xF#4 := h
  rw [soundWrite_of_ne_control v h, soundWrite_of_ne_control v hsel]
  rfl

/-- Outside the multiplex an instruction runs alike whatever the controller bytes, and keeps them. -/
theorem exec_withControllers {i : Instr} {s s' : State} (x y : Byte)
    (hi : (∀ p v, i ≠ .outSndWrite p v) ∨ s.sndSel ≠ 0xF#4) (h : exec i s = .next s') :
    exec i (s.withControllers x y) = .next (s'.withControllers x y) := by
  cases i with
  | memRd a => exact execMemRd_withControllers x y h
  | memWr a v => exact execMemWr_withControllers x y h
  | outSndWrite p v =>
    have hsel : s.sndSel ≠ 0xF#4 := hi.resolve_left fun hne => hne p v rfl
    rw [exec_outSndWrite] at h ⊢
    cases h
    rw [soundWrite_withControllers v x y hsel]
  | inVdpData | inVdpStatus | inSndData | inMapctl | inPortA9 | inIdle | outVdpData | outVdpControl | outSndSelect
  | outMapctl | outIgnored =>
    cases h
    rfl

/-- Every instruction answers a next state (60_exceptions.md R213: the one fault there is marks that state). -/
theorem exec_completes (i : Instr) (s : State) : ∃ s', exec i s = .next s' := by
  cases i with
  | memRd a => obtain ⟨-, e⟩ | ⟨-, e⟩ := execMemRd_cases a s <;> exact ⟨_, e⟩
  | memWr a v => obtain ⟨-, e⟩ | ⟨-, -, e⟩ := execMemWr_cases a v s <;> exact ⟨_, e⟩
  | _ => exact ⟨_, rfl⟩

/-- Settles O48: the instruction completes, and outside the multiplex it runs alike under other controller bytes. -/
theorem controllerBytesReachOnlyTheMultiplex : Obligations.ControllerBytesReachOnlyTheMultiplex := by
  intro i s x y hi
  obtain ⟨s', h⟩ := exec_completes i s
  exact ⟨s', h, exec_withControllers x y hi h⟩

end Sys2Proof.Machine

/-! PROOFS. The bank mapper family (43_bank_mapper.md): that a step keeps the invariant, the entries Build forms, and
the bounds of the offsets they lead to. -/

namespace Sys2Proof.Machine

/-! ### The invariant -/

theorem SameMapAndRegions.keeps_regionsSound {s s' : State} (h : SameMapAndRegions s s') (hs : s.regionsSound) :
    s'.regionsSound := by
  have hboot : s'.boot = s.boot := h.contents .boot
  have hbasic : s'.basic = s.basic := h.contents .basic
  have hcart1 : s'.cart1 = s.cart1 := h.contents .cart1
  have hcart2 : s'.cart2 = s.cart2 := h.contents .cart2
  have hram : s'.ram = s.ram := h.contents .ram
  have hunmapped : s'.unmapped = s.unmapped := h.contents .unmapped
  rw [State.regionsSound, hboot, hbasic, hcart1, hcart2, hram, hunmapped, h.cart1Size, h.cart2Size]
  exact hs

/-- Storing a byte inside RAM keeps every region sound (10_state.md R30, R33). -/
theorem regionsSound_withRam_write {s : State} {off : Nat} (v : Byte) (hoff : off < Config.ramSize)
    (hs : s.regionsSound) : (s.withRam (s.ram.write off v)).regionsSound := by
  obtain ⟨hboot, hbasic, hcart1, hcart2, ⟨hwf, hwithin⟩, hrest⟩ := hs
  exact ⟨hboot, hbasic, hcart1, hcart2, ⟨Memory.wf_write off v hwf, Memory.within_write v hoff hwithin⟩, hrest⟩

/-- Every step keeps the regions sound: while the table is current, the one byte it can store lies inside RAM. -/
theorem step_keeps_regionsSound {s s' : State} (hcurrent : s.tableCurrent) (hs : s.regionsSound)
    (h : step s = .next s') : s'.regionsSound := by
  obtain hsame | ⟨t, rest, p, v, -, -, rfl⟩ | ⟨t, rest, a, v, b, -, -, hram, rfl⟩ := step_next_cases h
  · exact hsame.keeps_regionsSound hs
  · exact hs
  · have hoff : (translate s a).offset < Config.ramSize := translate_offset_of_ram hcurrent hram ▸ a.isLt
    exact regionsSound_withRam_write (s := beginTransaction rest s) b hoff hs

/-- Settles O45: the two halves of the invariant, the regions' half by means of the current table. -/
theorem stepKeepsTheInvariant : Obligations.StepKeepsTheInvariant :=
  fun _ _ ⟨hcurrent, hregions⟩ h =>
    ⟨step_keeps_tableCurrent hcurrent h, step_keeps_regionsSound hcurrent hregions h⟩

/-! ### The entries of Build -/

/-- The field of a page's quadrant as a number (43_bank_mapper.md R162). -/
theorem pageField_toNat (c : Byte) (p : Fin 64) :
    (selectField c (quadrantOfPage p)).toNat = (c.toNat >>> (2 * (p.val / 16))) &&& 3 := by
  rw [selectField_toNat, Nat.and_two_pow_sub_one_eq_mod _ 2]
  rfl

/-- Entry `i` of quadrant `q` under field `f` (30_encoding.md R88; 43_bank_mapper.md R161, R163, R165). -/
theorem windowOf_source (q : Fin 4) (f : BitVec 2) (i : Nat) : windowOf (source q f) i =
    if f.toNat = 3 then ⟨.ram, 0x4000 * q.val + 0x400 * i, 0xFF#8⟩
    else if f.toNat = 2 then ⟨.cart2, 0x4000 * q.val + 0x400 * i, 0x00#8⟩
    else if f.toNat = 1 then ⟨.cart1, 0x4000 * q.val + 0x400 * i, 0x00#8⟩
    else if q.val = 0 then ⟨.boot, 0x400 * i, 0x00#8⟩
    else if q.val = 1 then ⟨.basic, 0x400 * i, 0x00#8⟩
    else ⟨.unmapped, 0, 0x00#8⟩ := by
  have hf : f = 0#2 ∨ f = 1#2 ∨ f = 2#2 ∨ f = 3#2 := by revert f; decide
  obtain rfl | rfl | rfl | rfl := hf
  · by_cases h0 : q = 0
    · simp [source, windowOf, h0]
    · by_cases h1 : q = 1
      · simp [source, windowOf, h1]
      · have hval : q.val ≠ 1 := fun e => h1 (Fin.ext e)
        simp [source, windowOf, h0, h1, hval]
  all_goals simp [source, windowOf]

/-- Settles O24: the window of the quadrant's source, whose offsets are those of the page `16*q + i` it is. -/
theorem buildFollowsTheRegionSelectTable : Obligations.BuildFollowsTheRegionSelectTable := by
  intro c p
  have hoff : 0x4000 * (p.val / 16) + 0x400 * (p.val % 16) = 0x400 * p.val := by omega
  have hq : (quadrantOfPage p).val = p.val / 16 := rfl
  rw [build_getElem, buildEntry, windowOf_source, pageField_toNat, hq, hoff]
  by_cases h0 : p.val / 16 = 0
  · have hboot : p.val % 16 = p.val := by omega
    rw [if_pos h0, if_pos h0, hboot]
  · rw [if_neg h0, if_neg h0]
    by_cases h1 : p.val / 16 = 1
    · have hbasic : p.val % 16 = p.val - 16 := by omega
      rw [hbasic]
    · rw [if_neg h1, if_neg h1]

/-- Settles O25: an entry is formed from its quadrant's field, and 16 pages of 1KB make a quadrant. -/
theorem quadrantsDependOnTheirOwnField : Obligations.QuadrantsDependOnTheirOwnField := by
  refine ⟨fun c c' p hfield => ?_, quadrantOfPage_pageIndex⟩
  rw [← pageField_toNat, ← pageField_toNat, BitVec.toNat_inj] at hfield
  rw [build_getElem, build_getElem, buildEntry, buildEntry, hfield]

/-! ### The bounds of a translation -/

/-- A source whose region is one quadrant long is mapped from its first byte (43_bank_mapper.md R163). -/
theorem source_offset_of_rom (q : Fin 4) (f : BitVec 2)
    (h : (source q f).region = .boot ∨ (source q f).region = .basic) : (source q f).offset = 0 := by
  revert q f; decide

theorem translate_offset_lt_of_rom {s : State} {a : Addr} (hs : s.tableCurrent)
    (h : (translate s a).region = .boot ∨ (translate s a).region = .basic) : (translate s a).offset < 0x4000 := by
  rw [translate_region hs] at h
  have hsource : (addressSource s.portA8 a).offset = 0 := source_offset_of_rom _ _ h
  have hmapped : (addressSource s.portA8 a).region ≠ .unmapped := by
    obtain e | e := h <;> rw [e] <;> decide
  have hpage := pageOffset_lt a
  simp only [translate_eq, pt_pageIndex_of_tableCurrent hs, windowOf, hmapped, if_false, hsource]
  omega

/-- Outside the placeholder an address reaches an offset no greater than itself, so below 0x10000 (43_bank_mapper.md
R168). -/
theorem translate_offset_lt_of_mapped {s : State} {a : Addr} (hs : s.tableCurrent)
    (h : (translate s a).region ≠ .unmapped) : (translate s a).offset < 0x10000 := by
  have hbase := translate_offset_add_base hs h
  have := a.isLt
  omega

/-- A window has its source's write-mask: the placeholder's, too, is 0x00 (43_bank_mapper.md R164, R165). -/
theorem windowOf_source_wmask (q : Fin 4) (f : BitVec 2) (i : Nat) :
    (windowOf (source q f) i).wmask = (source q f).wmask := by
  by_cases h : (source q f).region = .unmapped
  · have hmask := source_wmask q f
    rw [h] at hmask
    rw [hmask, windowOf, if_pos h]
    rfl
  · rw [windowOf, if_neg h]

theorem translate_wmask_of_not_ram {s : State} {a : Addr} (hs : s.tableCurrent) (h : (translate s a).region ≠ .ram) :
    (translate s a).wmask = 0x00#8 := by
  rw [translate_region hs] at h
  rw [translate_eq, pt_pageIndex_of_tableCurrent hs, addressSource, windowOf_source_wmask, source_wmask]
  exact if_neg h

/-- Settles O31: the bound of each region by what its quadrants map, and the mask by region. -/
theorem translatedOffsetsStayInTheirRegion : Obligations.TranslatedOffsetsStayInTheirRegion := by
  intro s a hs
  have hmapped {r : Region} (hr : r ≠ .unmapped) (h : (translate s a).region = r) : (translate s a).offset < 0x10000 :=
    translate_offset_lt_of_mapped hs (h ▸ hr)
  refine ⟨fun h => translate_offset_lt_of_rom hs (.inl h), fun h => translate_offset_lt_of_rom hs (.inr h),
    hmapped (by decide), hmapped (by decide), hmapped (by decide), fun h => ?_, translate_wmask_of_ram hs,
    translate_wmask_of_not_ram hs⟩
  rw [translate_offset_of_unmapped hs h]
  exact Nat.mod_lt _ (by decide)

end Sys2Proof.Machine

/-! PROOFS. The memory access family (44_memory_access.md): what MEM_RD and MEM_WR do at the entry an address translates
to, in every state and while the table is current, and the obligations that follow from it. -/

namespace Sys2Proof.Machine

/-! ### A read at the entry its address translates to -/

/-- Only a cartridge image can lack a byte (20_memory.md R55). -/
theorem absent_iff (s : State) (r : Region) (off : Nat) :
    s.absent r off = true ↔ r = .cart1 ∧ s.cart1Size ≤ off ∨ r = .cart2 ∧ s.cart2Size ≤ off := by
  cases r <;> simp [State.absent]

theorem exec_memRd_of_present {s : State} {a : Addr} {e : Entry} (ht : translate s a = e)
    (h : ¬s.absent e.region e.offset = true) :
    exec (.memRd a) s = .next { s with result := some (s.byteAt e.region e.offset) } := by
  subst ht
  obtain ⟨-, e⟩ | ⟨habsent, -⟩ := execMemRd_cases a s
  · exact e
  · exact absurd habsent h

theorem exec_memRd_of_absent {s : State} {a : Addr} {e : Entry} (ht : translate s a = e)
    (h : s.absent e.region e.offset = true) :
    exec (.memRd a) s =
      .next { s with fault := some (.regionBounds e.region e.offset), result := none } := by
  subst ht
  obtain ⟨hpresent, -⟩ | ⟨-, e⟩ := execMemRd_cases a s
  · simp [hpresent] at h
  · exact e

/-- Settles O32: the entry and the page offset are what the address translates to, and a read there returns the byte or
sets the mark as the byte is present or absent. -/
theorem memoryReadFollowsTheEntry : Obligations.MemoryReadFollowsTheEntry := by
  intro s a p hp
  have ht := translateAddsThePageOffset s a p hp
  rw [← absent_iff]
  refine ⟨exec_memRd_of_absent ht, exec_memRd_of_present ht, fun hs hunmapped => ?_⟩
  have hoff := translate_offset_of_unmapped (a := a) hs (by rw [ht]; exact hunmapped)
  rw [ht] at hoff
  exact hoff

/-! ### A read by the field of its quadrant -/

/-- Where an address lands while the table is current, by the field of its quadrant (44_memory_access.md R192). -/
theorem translate_of_tableCurrent {s : State} (hs : s.tableCurrent) (a : Addr) : translate s a =
    if (s.portA8.toNat >>> (2 * (a.toNat / 0x4000))) &&& 3 = 3 then ⟨.ram, a.toNat, 0xFF#8⟩
    else if (s.portA8.toNat >>> (2 * (a.toNat / 0x4000))) &&& 3 = 2 then ⟨.cart2, a.toNat, 0x00#8⟩
    else if (s.portA8.toNat >>> (2 * (a.toNat / 0x4000))) &&& 3 = 1 then ⟨.cart1, a.toNat, 0x00#8⟩
    else if a.toNat < 0x4000 then ⟨.boot, a.toNat, 0x00#8⟩
    else if a.toNat < 0x8000 then ⟨.basic, a.toNat - 0x4000, 0x00#8⟩
    else ⟨.unmapped, a.toNat % 0x400, 0x00#8⟩ := by
  have hquadrant : a.toNat / 0x400 / 16 = a.toNat / 0x4000 := Nat.div_div_eq_div_mul ..
  have hpage : 0x400 * (a.toNat / 0x400) + a.toNat % 0x400 = a.toNat := Nat.div_add_mod ..
  rw [translate_eq, hs, buildFollowsTheRegionSelectTable, pageIndex_val, pageOffset_eq, hquadrant]
  by_cases h3 : (s.portA8.toNat >>> (2 * (a.toNat / 0x4000))) &&& 3 = 3
  · simp [h3, hpage]
  by_cases h2 : (s.portA8.toNat >>> (2 * (a.toNat / 0x4000))) &&& 3 = 2
  · simp [h2, hpage]
  by_cases h1 : (s.portA8.toNat >>> (2 * (a.toNat / 0x4000))) &&& 3 = 1
  · simp [h1, hpage]
  simp only [h3, h2, h1, if_false]
  by_cases hboot : a.toNat < 0x4000
  · have hq : a.toNat / 0x4000 = 0 := by omega
    simp [hq, hboot, hpage]
  by_cases hbasic : a.toNat < 0x8000
  · have hq : a.toNat / 0x4000 = 1 := by omega
    have hshift : 0x400 * (a.toNat / 0x400 - 16) + a.toNat % 0x400 = a.toNat - 0x4000 := by omega
    simp [hq, hboot, hbasic, hshift]
  · have hq0 : a.toNat / 0x4000 ≠ 0 := by omega
    have hq1 : a.toNat / 0x4000 ≠ 1 := by omega
    simp [hq0, hq1, hboot, hbasic]

/-- Settles O33: each row is the entry the field gives, and whether its byte is present. -/
theorem memoryReadByQuadrantField : Obligations.MemoryReadByQuadrantField := by
  intro s a f hs hf
  have ht := translate_of_tableCurrent hs a
  rw [← hf] at ht
  have hboot : f = 0 → a.toNat < 0x4000 → translate s a = ⟨.boot, a.toNat, 0x00#8⟩ :=
    fun h0 ha => by simp [ht, h0, ha]
  have hbasic : f = 0 → 0x4000 ≤ a.toNat → a.toNat < 0x8000 → translate s a = ⟨.basic, a.toNat - 0x4000, 0x00#8⟩ :=
    fun h0 ha hb => by simp [ht, h0, ha, hb]
  have hunmapped : f = 0 → 0x8000 ≤ a.toNat → translate s a = ⟨.unmapped, a.toNat % 0x400, 0x00#8⟩ :=
    fun h0 ha => by
      have hb : ¬a.toNat < 0x4000 := by omega
      simp [ht, h0, hb, ha]
  have hcart1 : f = 1 → translate s a = ⟨.cart1, a.toNat, 0x00#8⟩ := fun h1 => by simp [ht, h1]
  have hcart2 : f = 2 → translate s a = ⟨.cart2, a.toNat, 0x00#8⟩ := fun h2 => by simp [ht, h2]
  have hram : f = 3 → translate s a = ⟨.ram, a.toNat, 0xFF#8⟩ := fun h3 => by simp [ht, h3]
  exact ⟨fun h0 ha => exec_memRd_of_present (hboot h0 ha) (by simp [absent_iff]),
    fun h0 ha hb => exec_memRd_of_present (hbasic h0 ha hb) (by simp [absent_iff]),
    fun h0 ha => exec_memRd_of_present (hunmapped h0 ha) (by simp [absent_iff]),
    fun h1 hsize => exec_memRd_of_present (hcart1 h1) (by simp [absent_iff, hsize]),
    fun h1 hsize => exec_memRd_of_absent (hcart1 h1) (by simp [absent_iff, hsize]),
    fun h2 hsize => exec_memRd_of_present (hcart2 h2) (by simp [absent_iff, hsize]),
    fun h2 hsize => exec_memRd_of_absent (hcart2 h2) (by simp [absent_iff, hsize]),
    fun h3 => exec_memRd_of_present (hram h3) (by simp [absent_iff])⟩

/-! ### A write through its mask -/

@[simp] theorem maskMerge_zero (old v : Byte) : maskMerge old v 0x00#8 = old := by
  rw [maskMerge, BitVec.not_zero, BitVec.and_allOnes, BitVec.and_zero, BitVec.or_zero]

/-- A write through mask 0x00 is discarded (44_memory_access.md R193). -/
theorem exec_memWr_of_wmask_zero {s : State} {a : Addr} (v : Byte) (h : (translate s a).wmask = 0x00#8) :
    exec (.memWr a v) s = .next s := by
  obtain ⟨-, e⟩ | ⟨hmask, -, -⟩ := execMemWr_cases a v s
  · exact e
  · exact absurd h hmask

/-- A write through mask 0xFF into RAM stores its byte, in every state (44_memory_access.md R193). -/
theorem exec_memWr_of_wmask_full {s : State} {a : Addr} (v : Byte) (h : (translate s a).wmask = 0xFF#8)
    (hram : (translate s a).region = .ram) :
    exec (.memWr a v) s = .next (s.withRam (s.ram.write (translate s a).offset v)) := by
  obtain ⟨hno, -⟩ | ⟨-, -, e⟩ := execMemWr_cases a v s
  · simp [h, hram] at hno
  · rw [h, maskMerge_full] at e
    exact e

/-- A store to RAM leaves every other byte of every region. -/
theorem byteAt_withRam_write_other {s : State} {off other : Nat} {r : Region} (v : Byte)
    (h : ¬(r = .ram ∧ other = off)) : (s.withRam (s.ram.write off v)).byteAt r other = s.byteAt r other := by
  rw [byteAt_withRam_write, if_neg h]

/-- While the table is current, only RAM is mapped through mask 0xFF (43_bank_mapper.md R164). -/
theorem translate_region_of_wmask_full {s : State} {a : Addr} (hs : s.tableCurrent)
    (h : (translate s a).wmask = 0xFF#8) : (translate s a).region = .ram := by
  by_contra hram
  rw [translate_wmask_of_not_ram hs hram] at h
  exact absurd h (by decide)

/-- After a remap that maps RAM at an address, a read there returns RAM's byte (42_port_writes.md R136). -/
theorem exec_memRd_of_remapped_ram (s : State) {a : Addr} {c : Byte}
    (h : (c.toNat >>> (2 * (a.toNat / 0x4000))) &&& 3 = 3) :
    exec (.memRd a) { s with portA8 := c, pt := build c } =
      .next { s with portA8 := c, pt := build c, result := some (s.byteAt .ram a.toNat) } := by
  have hcurrent : State.tableCurrent { s with portA8 := c, pt := build c } := rfl
  exact exec_memRd_of_ram hcurrent ((translate_region_eq_ram_iff hcurrent a).mpr h)

/-- Settles O34: the write by its mask, the two masks of a current table, and the byte's survival of a remap. -/
theorem memoryWriteStoresThroughTheMask : Obligations.MemoryWriteStoresThroughTheMask := by
  intro s a v p hp
  have ht := translateAddsThePageOffset s a p hp
  have hregion : s.pt[p].region = (translate s a).region := by rw [ht]
  have hoff : s.pt[p].offset + a.toNat % 0x400 = (translate s a).offset := by rw [ht]
  have hmask : s.pt[p].wmask = (translate s a).wmask := by rw [ht]
  rw [hregion, hoff, hmask]
  refine ⟨exec_memWr_of_wmask_zero v, fun hfull hram => ?_, fun hs => ?_, fun h c h' c' hs hfull hback => ?_⟩
  · exact ⟨_, exec_memWr_of_wmask_full v hfull hram, rfl, byteAt_ram_withRam_write ..,
      fun r off hother => byteAt_withRam_write_other v hother⟩
  · by_cases hram : (translate s a).region = .ram
    · exact .inr ⟨translate_wmask_of_ram hs hram, hram, translate_offset_of_ram hs hram⟩
    · exact .inl (translate_wmask_of_not_ram hs hram)
  · have hram := translate_region_of_wmask_full hs hfull
    have hbyte := byteAt_ram_withRam_write s a.toNat v
    exact ⟨_, _, _, _, exec_memWr_of_ram v hs hram, exec_outMapctl h c _, hbyte, exec_outMapctl h' c' _,
      exec_memRd_of_remapped_ram _ hback, congrArg some hbyte⟩

/-- Settles O35: a write that stores nothing was discarded outside RAM or through mask 0x00, whose merge is the old
byte; any other stores the merge. -/
theorem memoryWriteMergesBytewise : Obligations.MemoryWriteMergesBytewise := by
  intro s a v
  obtain ⟨hno, e⟩ | ⟨-, hram, e⟩ := execMemWr_cases a v s
  · refine ⟨s, e, rfl, fun hram => ?_, fun _ _ _ => rfl, fun _ => rfl⟩
    have hmask : (translate s a).wmask = 0x00#8 := hno.resolve_right (not_not_intro hram)
    rw [hmask]
    exact (maskMerge_zero _ v).symm
  · exact ⟨_, e, rfl, fun _ => byteAt_ram_withRam_write .., fun r off hother => byteAt_withRam_write_other _ hother,
      fun hnot => absurd hram hnot⟩

end Sys2Proof.Machine

/-! PROOFS. The exceptions family (60_exceptions.md): the one transaction that sets the mark FAULT, why none does while
both cartridge images are whole, and which launches are refused. -/

namespace Sys2Proof.Machine

/-! ### What sets the mark FAULT -/

/-- Only MEM_RD can set an empty mark: at an absent byte, whose region and offset it records (60_exceptions.md R212 to
R214). -/
theorem exec_sets_fault {i : Instr} {s s' : State} {f : Fault} (h : exec i s = .next s') (hs : s.fault = none)
    (hf : s'.fault = some f) :
    ∃ a, i = .memRd a ∧ f = .regionBounds (translate s a).region (translate s a).offset ∧
      s.absent (translate s a).region (translate s a).offset = true ∧
      s' = { s with fault := some f, result := none } := by
  obtain ⟨-, hkeeps, -⟩ := onlyNamedInstructionsChangeState i s s' h
  by_cases hi : ∀ a, i ≠ .memRd a
  · rw [hkeeps hi, hs] at hf
    cases hf
  · push Not at hi
    obtain ⟨a, rfl⟩ := hi
    have h : execMemRd a s = .next s' := h
    obtain ⟨-, e⟩ | ⟨habsent, e⟩ := execMemRd_cases a s <;> rw [e] at h <;> cases h
    · rw [reply_eq, hs] at hf
      cases hf
    · rw [raiseFault_eq] at hf ⊢
      cases hf
      exact ⟨a, rfl, rfl, habsent, rfl⟩

/-- Settles O39: an idle step and a host event leave the mark empty, and of the transactions only a MEM_RD of an absent
byte sets it. -/
theorem faultOnlyFromAnAbsentCartridgeByte : Obligations.FaultOnlyFromAnAbsentCartridgeByte := by
  intro s s' f h hs hf
  obtain ⟨g, -, e⟩ | ⟨-, -, e⟩ | ⟨v, rest, -, -, e⟩ | ⟨v, rest, -, -, e⟩ | ⟨t, rest, -, hb, e⟩ := step_cases s
    <;> rw [e] at h
  case inr.inr.inr.inr =>
    obtain ⟨a, hd, hrecord, habsent, hs'⟩ := exec_sets_fault h hs hf
    exact ⟨t, a, rest, hb, hd, hrecord, (absent_iff s _ _).mp habsent, hs'⟩
  case inl => cases h
  all_goals
    cases h
    simp [hs] at hf

/-! ### Whole images -/

/-- Every byte of both cartridge images that an address can reach is present (10_state.md R30). -/
def State.imagesWhole (s : State) : Prop :=
  Config.cartAddressed ≤ s.cart1Size ∧ Config.cartAddressed ≤ s.cart2Size

theorem step_keeps_imagesWhole {s s' : State} (hs : s.imagesWhole) (h : step s = .next s') : s'.imagesWhole := by
  obtain ⟨-, h1, h2⟩ := romsAndPlaceholderNeverChange s s' h
  rwa [State.imagesWhole, h1, h2]

/-- While the table is current no address reaches past a whole image (43_bank_mapper.md R168). -/
theorem present_of_imagesWhole {s : State} (hs : s.tableCurrent) (hwhole : s.imagesWhole) (a : Addr) :
    ¬s.absent (translate s a).region (translate s a).offset = true := by
  rw [absent_iff]
  obtain ⟨h1, h2⟩ := hwhole
  rintro (⟨hr, hoff⟩ | ⟨hr, hoff⟩) <;>
    have hlt := translate_offset_lt_of_mapped (a := a) hs (by rw [hr]; decide)
  · exact absurd (h1.trans hoff) (Nat.not_le.mpr hlt)
  · exact absurd (h2.trans hoff) (Nat.not_le.mpr hlt)

/-- With an empty mark a step answers a next state (60_exceptions.md R210). -/
theorem step_completes {s : State} (hs : s.running) : ∃ s', step s = .next s' := by
  obtain ⟨f, hf, -⟩ | ⟨-, -, e⟩ | ⟨v, rest, -, -, e⟩ | ⟨v, rest, -, -, e⟩ | ⟨t, rest, -, -, e⟩ := step_cases s
  · rw [hs] at hf
    cases hf
  · exact ⟨_, e⟩
  · exact ⟨_, e⟩
  · exact ⟨_, e⟩
  · rw [e]
    exact exec_completes _ _

/-- What every state of a run with whole images meets: the invariant, whole images and an empty mark. -/
structure WholeAndRunning (s : State) : Prop where
  inv     : s.Inv
  whole   : s.imagesWhole
  running : s.running

theorem step_keeps_wholeAndRunning {s s' : State} (hs : WholeAndRunning s) (h : step s = .next s') :
    WholeAndRunning s' := by
  refine ⟨stepKeepsTheInvariant s s' hs.inv h, step_keeps_imagesWhole hs.whole h, ?_⟩
  cases hf : s'.fault with
  | none => exact hf
  | some f =>
    obtain ⟨t, a, rest, -, -, -, habsent, -⟩ := faultOnlyFromAnAbsentCartridgeByte s s' f h hs.running hf
    exact absurd ((absent_iff s _ _).mpr habsent) (present_of_imagesWhole hs.inv.1 hs.whole a)

/-- What every step keeps, and makes a step complete, makes every run end in a state where it holds. -/
theorem run_completes {P : State → Prop} (hnext : ∀ s, P s → ∃ s', step s = .next s')
    (hkeeps : ∀ s s', P s → step s = .next s' → P s') (k : Nat) {s : State} (hs : P s) :
    ∃ s', Host.Core.run Sys2Proof.core k s = .next s' ∧ P s' := by
  induction k generalizing s with
  | zero => exact ⟨s, run_zero s, hs⟩
  | succ k ih =>
    obtain ⟨s1, h⟩ := hnext s hs
    rw [run_succ_next h]
    exact ih (hkeeps s s1 hs h)

/-- Settles O40: a step from a state with whole images completes and sets no mark, and the run follows by induction on
its length. -/
theorem wholeImagesNeverFault : Obligations.WholeImagesNeverFault := by
  intro k s hinv hf h1 h2
  obtain ⟨s', hrun, hs'⟩ := run_completes (fun _ hs => step_completes hs.running)
    (fun _ _ hs h => step_keeps_wholeAndRunning hs h) k (⟨hinv, ⟨h1, h2⟩, hf⟩ : WholeAndRunning s)
  exact ⟨s', hrun, hs'.running⟩

/-! ### The launch -/

/-- The launch that wires everything and loads the parameters `p`. -/
def Params.launch (p : Params) : Launch where
  video     := some p.vdpState0
  sound     := some (p.initSndSel, p.initSndRegs)
  pageTable := true
  boot      := some p.bootRom
  basic     := some p.basicRom
  cart1     := some (p.cart1Size, p.cart1Rom)
  cart2     := some (p.cart2Size, p.cart2Rom)
  ram       := some p.initRam
  unmapped  := some p.unmappedPage
  ctrl1     := p.ctrl1
  ctrl2     := p.ctrl2

theorem start_launch (p : Params) : p.launch.start = .next (State.resetWith p) := rfl

/-- A component of the launch is missing (60_exceptions.md R215). -/
def Launch.lacksComponent (l : Launch) : Prop :=
  l.video = none ∨ l.sound = none ∨ l.pageTable = false ∨ l.boot = none ∨ l.basic = none ∨ l.cart1 = none ∨
    l.cart2 = none ∨ l.ram = none ∨ l.unmapped = none

theorem not_lacksComponent_launch (p : Params) : ¬p.launch.lacksComponent := by
  simp [Launch.lacksComponent, Params.launch]

/-- A launch is the complete one of its parameters, or lacks a component and is refused: a row per component, in the
order in which the launch looks for them. -/
theorem launch_cases : ∀ l : Launch,
    (∃ p : Params, l = p.launch) ∨ (l.lacksComponent ∧ ∃ c, l.start = .refused (.unwired c))
  | ⟨none, _, _, _, _, _, _, _, _, _, _⟩ => .inr ⟨by simp [Launch.lacksComponent], .videoUnit, rfl⟩
  | ⟨some _, none, _, _, _, _, _, _, _, _, _⟩ => .inr ⟨by simp [Launch.lacksComponent], .soundUnit, rfl⟩
  | ⟨some _, some _, false, _, _, _, _, _, _, _, _⟩ => .inr ⟨by simp [Launch.lacksComponent], .pageTable, rfl⟩
  | ⟨some _, some _, true, none, _, _, _, _, _, _, _⟩ =>
    .inr ⟨by simp [Launch.lacksComponent], .region .boot, rfl⟩
  | ⟨some _, some _, true, some _, none, _, _, _, _, _, _⟩ =>
    .inr ⟨by simp [Launch.lacksComponent], .region .basic, rfl⟩
  | ⟨some _, some _, true, some _, some _, none, _, _, _, _, _⟩ =>
    .inr ⟨by simp [Launch.lacksComponent], .region .cart1, rfl⟩
  | ⟨some _, some _, true, some _, some _, some _, none, _, _, _, _⟩ =>
    .inr ⟨by simp [Launch.lacksComponent], .region .cart2, rfl⟩
  | ⟨some _, some _, true, some _, some _, some _, some _, none, _, _, _⟩ =>
    .inr ⟨by simp [Launch.lacksComponent], .region .ram, rfl⟩
  | ⟨some _, some _, true, some _, some _, some _, some _, some _, none, _, _⟩ =>
    .inr ⟨by simp [Launch.lacksComponent], .region .unmapped, rfl⟩
  | ⟨some vdp, some (sel, regs), true, some boot, some basic, some (size1, rom1), some (size2, rom2), some ram,
      some page, ctrl1, ctrl2⟩ =>
    .inl ⟨⟨boot, basic, rom1, rom2, page, ram, size1, size2, sel, regs, vdp, ctrl1, ctrl2⟩, rfl⟩

/-- A complete launch starts, so the refused ones are those that lack a component (60_exceptions.md R215). -/
theorem start_refused_iff (l : Launch) : (∃ c, l.start = .refused (.unwired c)) ↔ l.lacksComponent := by
  obtain ⟨p, rfl⟩ | ⟨hlacks, hrefused⟩ := launch_cases l
  · simp [start_launch, not_lacksComponent_launch]
  · exact iff_of_true hrefused hlacks

/-- Settles O43: the refused launches are those that lack a component, and a complete one starts. -/
theorem launchIsRefusedExactlyWhenUnwired : Obligations.LaunchIsRefusedExactlyWhenUnwired :=
  ⟨start_refused_iff, start_launch⟩

end Sys2Proof.Machine

/-! PROOFS. The reset and hazards family (70_reset_and_hazards.md): where an address lands right after reset and what the
memory transactions then do there, and the table that the transaction after a mapper write translates through. -/

namespace Sys2Proof.Machine

/-! ### Memory after reset -/

/-- Where an address lands right after reset: control value 0x00 has field 0 in every quadrant
(70_reset_and_hazards.md R240, R242). -/
theorem translate_resetWith (p : Params) (a : Addr) : translate (State.resetWith p) a =
    if a.toNat < 0x4000 then ⟨.boot, a.toNat, 0x00#8⟩
    else if a.toNat < 0x8000 then ⟨.basic, a.toNat - 0x4000, 0x00#8⟩
    else ⟨.unmapped, a.toNat % 0x400, 0x00#8⟩ := by
  rw [translate_of_tableCurrent (pageTableStaysCurrent.1 p), State.resetWith_portA8]
  simp [initPortA8]

/-- No address is writable right after reset (70_reset_and_hazards.md R242). -/
theorem translate_resetWith_wmask (p : Params) (a : Addr) : (translate (State.resetWith p) a).wmask = 0x00#8 := by
  rw [translate_resetWith]
  split_ifs <;> rfl

/-- Settles O42: a read returns the byte its address lands on, which is present because no cartridge is mapped, and a
write is discarded through mask 0x00. -/
theorem afterResetOnlyRomsAreMapped : Obligations.AfterResetOnlyRomsAreMapped := by
  refine fun p a v => ⟨?_, exec_memWr_of_wmask_zero v (translate_resetWith_wmask p a)⟩
  have ht := translate_resetWith p a
  split_ifs at ht ⊢ <;> exact exec_memRd_of_present ht (by simp [absent_iff])

/-! ### The transaction after a mapper write -/

/-- Settles O26: the step's own equation gives the new table, and a translation reads nothing but the table. -/
theorem mapperWriteTakesEffectAtOnce : Obligations.MapperWriteTakesEffectAtOnce := by
  intro s h v rest hf hb
  exact ⟨_, step_outMapctl hf hb, rfl, hf, rfl, fun a => translateAddsThePageOffset _ a _ (pageIndex_val a)⟩

end Sys2Proof.Machine

/-! PROOFS. Decoding against encoding (30_encoding.md), the packed form of an entry, what a step does with each event it
can take (10_state.md, 60_exceptions.md, 70_reset_and_hazards.md), and the reset state's invariant. -/

namespace Sys2Proof.Machine

/-! ### Encoding, then decoding -/

/-- The encoder's fixed port bytes are those of the case tables; a default row's port is outside them because the
instruction is well-formed (30_encoding.md R82). -/
theorem decode_encode {i : Instr} (hi : i.wellFormed = true) : decode (encode i) = i := by
  cases i with
  | inVdpData p => exact portDecodeFollowsTheCaseTables.1 p 0x98#8 0x00#8
  | inVdpStatus p => exact portDecodeFollowsTheCaseTables.1 p 0x99#8 0x00#8
  | inSndData p => exact decode_inSndData p 0x00#8
  | inMapctl p => exact decode_inMapctl p 0x00#8
  | inPortA9 p => exact portDecodeFollowsTheCaseTables.1 p 0xA9#8 0x00#8
  | inIdle port => rw [encode, decode_read, decodeRead_of_not_mem ((inIdle_wellFormed_iff port).mp hi)]
  | outVdpData p v => exact portDecodeFollowsTheCaseTables.2 p 0x98#8 v
  | outVdpControl p v => exact portDecodeFollowsTheCaseTables.2 p 0x99#8 v
  | outSndSelect p v => exact decode_outSndSelect p v
  | outSndWrite p v => exact decode_outSndWrite p v
  | outMapctl p v => exact (decode_eq_outMapctl_iff _ p v).mpr rfl
  | outIgnored port v => rw [encode, decode_write, decodeWrite_of_not_mem v ((outIgnored_wellFormed_iff port v).mp hi)]
  | memRd a => exact decode_memRd a 0x00#8
  | memWr a v => exact decode_memWr a v

/-- The three selector bytes of the layout hold bits 7:0, 15:8 and 17:16 (log 11), so no bit of a selector is lost. -/
theorem selectorOf_bytes (sel : Selector) :
    selectorOf (sel.extractLsb' 16 2) (portOf (sel.extractLsb' 8 8) (sel.extractLsb' 0 8)) = sel := by
  have hport : portOf (sel.extractLsb' 8 8) (sel.extractLsb' 0 8) = sel.extractLsb' 0 16 :=
    BitVec.extractLsb'_append_extractLsb'_eq_extractLsb' rfl
  rw [hport, selectorOf_parts]

theorem transactionOfBytes_bytesOfTransaction (t : Transaction) (rest : List Byte) :
    transactionOfBytes (bytesOfTransaction t ++ rest) = .ok (t, rest) := by
  have htop : ∀ d : BitVec 2, (d.setWidth 8).extractLsb' 2 6 = 0#6 ∧ (d.setWidth 8).extractLsb' 0 2 = d := by decide
  obtain ⟨hzero, hback⟩ := htop (t.selector.extractLsb' 16 2)
  simp only [bytesOfTransaction, List.cons_append, List.nil_append, transactionOfBytes]
  rw [if_pos hzero, hback, selectorOf_bytes]

/-- Settles O1: the case tables for the transaction, the byte layout for the bytes. -/
theorem decodeInvertsEncode : Obligations.DecodeInvertsEncode := by
  intro i rest hi
  refine ⟨decode_encode hi, ?_⟩
  simp only [decodeBytes, encodeBytes, transactionOfBytes_bytesOfTransaction, decode_encode hi]

/-! ### Decoding, then encoding -/

theorem encode_decodeRead (port : Port) : encode (decodeRead port) = ⟨selectorOf 0b00#2 port, 0x00#8⟩ := by
  unfold decodeRead
  split_ifs with h98 h99 hA2 hA8 hA9
  · rw [encode, ← h98, portOf_parts]
  · rw [encode, ← h99, portOf_parts]
  · rw [encode, ← hA2, portOf_parts]
  · rw [encode, ← hA8, portOf_parts]
  · rw [encode, ← hA9, portOf_parts]
  · rfl

theorem encode_decodeWrite (port : Port) (v : Byte) : encode (decodeWrite port v) = ⟨selectorOf 0b01#2 port, v⟩ := by
  obtain ⟨hport, e⟩ | ⟨hport, e⟩ | ⟨hport, e⟩ | ⟨hport, e⟩ | ⟨hport, e⟩ | ⟨-, e⟩ := decodeWrite_cases port v <;>
    rw [e, encode]
  all_goals rw [← hport, portOf_parts]

/-- Decoding drops no bit of a selector word, and of the data byte only a read's (30_encoding.md R90; log 11). -/
theorem encode_decode (t : Transaction) :
    encode (decode t) = if t.selector.getLsbD 16 = true then t else ⟨t.selector, 0x00#8⟩ := by
  obtain ⟨low, ht | ht | ht | ht⟩ := transaction_kinds t <;> rw [ht]
  · rw [decode_read, encode_decodeRead, selectorOf_direction]
    rfl
  · rw [decode_write, encode_decodeWrite, selectorOf_direction]
    rfl
  · rw [decode_memRd, encode, selectorOf_direction]
    rfl
  · rw [decode_memWr, encode, selectorOf_direction]
    rfl

theorem encode_decode_selector (t : Transaction) : (encode (decode t)).selector = t.selector := by
  rw [encode_decode]
  split <;> rfl

/-- Settles O2: the decoded term is well-formed, and its encoding differs from the transaction at most in a read's data
byte. -/
theorem encodeInvertsDecode : Obligations.EncodeInvertsDecode :=
  fun t => ⟨decode_wellFormed t, encode_decode_selector t, fun hwrite => (encode_decode t).trans (if_pos hwrite)⟩

/-! ### The opcode table's rows -/

/-- A row that is no default is taken wherever it fits (30_encoding.md R82). -/
theorem taken_of_fits {row : OpcodeRow} {sel : Selector} (hdefault : row.isDefault = false)
    (hfits : row.fits sel = true) : row.taken sel = true := by
  simp [OpcodeRow.taken, hdefault, hfits]

/-- Settles O3: a taken row has the decoded instruction's mnemonic, so two rows that fit and are no defaults share one,
and mnemonics tell the rows apart. -/
theorem decodeFollowsOpcodeTable : Obligations.DecodeFollowsOpcodeTable := by
  refine ⟨fun t row hrow htaken => ((taken_iff_mnemonic_decode t row hrow).mp htaken).symm, ?_⟩
  intro sel row hrow other hother hdefault hdefault' hfits hfits'
  have hname := (taken_iff_mnemonic_decode ⟨sel, 0x00#8⟩ row hrow).mp (taken_of_fits hdefault hfits)
  have hname' := (taken_iff_mnemonic_decode ⟨sel, 0x00#8⟩ other hother).mp (taken_of_fits hdefault' hfits')
  exact row_eq_of_mnemonic_eq other hother row hrow (hname.trans hname'.symm)

/-- Settles O5: each word is decoded bit by bit. -/
theorem writtenOutSelectorsDecode : Obligations.WrittenOutSelectorsDecode := by
  unfold Obligations.WrittenOutSelectorsDecode
  decide

/-! ### The packed form of an entry -/

@[simp] theorem Region.ofCode_code (r : Region) : Region.ofCode r.code = some r := by
  cases r <;> rfl

/-- An entry whose window starts at one of the 64 whole kilobytes: what six offset bits can hold (30_encoding.md R93). -/
def Entry.packable (e : Entry) : Prop := ∃ k < 64, e.offset = 0x400 * k

theorem Entry.pack_toNat {r : Region} {k : Nat} (hk : k < 64) (m : Byte) :
    (Entry.pack ⟨r, 0x400 * k, m⟩).toNat = r.code.toNat * 0x4000 + k * 0x100 + m.toNat := by
  have hcode := r.code.isLt
  have hmask := m.isLt
  rw [Entry.pack, BitVec.toNat_ofNat, Nat.mul_div_cancel_left k (by decide)]
  exact Nat.mod_eq_of_lt (by omega)

/-- The three fields of a packed word do not overlap. -/
theorem Entry.unpack_pack {e : Entry} (he : e.packable) : Entry.unpack e.pack = some e := by
  obtain ⟨r, off, m⟩ := e
  obtain ⟨k, hk, rfl⟩ := he
  have hcode := r.code.isLt
  have hmask := m.isLt
  have hregion : (Entry.pack ⟨r, 0x400 * k, m⟩).extractLsb' 14 3 = r.code := by
    apply BitVec.eq_of_toNat_eq
    rw [BitVec.extractLsb'_toNat, Entry.pack_toNat hk, Nat.shiftRight_eq_div_pow]
    omega
  have hoffset : ((Entry.pack ⟨r, 0x400 * k, m⟩).extractLsb' 8 6).toNat = k := by
    rw [BitVec.extractLsb'_toNat, Entry.pack_toNat hk, Nat.shiftRight_eq_div_pow]
    omega
  have hwmask : (Entry.pack ⟨r, 0x400 * k, m⟩).extractLsb' 0 8 = m := by
    apply BitVec.eq_of_toNat_eq
    rw [BitVec.extractLsb'_toNat, Entry.pack_toNat hk, Nat.shiftRight_eq_div_pow]
    omega
  rw [Entry.unpack, hregion, hoffset, hwmask, Region.ofCode_code, Option.map_some]

/-- Every window that Build forms starts at a whole kilobyte below 0x10000 (43_bank_mapper.md R161, R168). -/
theorem build_packable (c : Byte) (p : Fin 64) : (build c)[p].packable := by
  rw [buildFollowsTheRegionSelectTable c p]
  have hp := p.isLt
  split_ifs with hram hcart2 hcart1 hboot hbasic
  · exact ⟨p.val, hp, rfl⟩
  · exact ⟨p.val, hp, rfl⟩
  · exact ⟨p.val, hp, rfl⟩
  · exact ⟨p.val, hp, rfl⟩
  · exact ⟨p.val - 16, by omega, rfl⟩
  · exact ⟨0, by decide, rfl⟩

/-- Settles O7: Build's entries are packable, and a packable entry survives. -/
theorem packedEntriesUnpack : Obligations.PackedEntriesUnpack :=
  fun c p => Entry.unpack_pack (build_packable c p)

/-! ### What a step does with the event it takes -/

/-- Settles O8: the state the transaction begins in, written out. -/
theorem stepRunsTheIssuedTransaction : Obligations.StepRunsTheIssuedTransaction := by
  intro s t rest hf hb
  rw [step_transaction hf hb, beginTransaction_eq]

theorem step_hostCtrl1 {s : State} {v : Byte} {rest : List BusEvent} (hf : s.fault = none)
    (hb : s.bus = .hostCtrl1 v :: rest) : step s = .next ((s.withBus rest).withCtrl1 v) := by
  simp [step, hf, hb]

theorem step_hostCtrl2 {s : State} {v : Byte} {rest : List BusEvent} (hf : s.fault = none)
    (hb : s.bus = .hostCtrl2 v :: rest) : step s = .next ((s.withBus rest).withCtrl2 v) := by
  simp [step, hf, hb]

theorem step_idle {s : State} (hf : s.fault = none) (hb : s.bus = []) : step s = .next s := by
  simp [step, hf, hb]

/-- Settles O9: the step's equation for each host event and for an empty queue. -/
theorem hostEventsSetOneControllerByte : Obligations.HostEventsSetOneControllerByte :=
  ⟨fun _ _ _ => step_hostCtrl1, fun _ _ _ => step_hostCtrl2, fun _ => step_idle⟩

/-- Settles O10: the step looks at the mark before it looks at the queue. -/
theorem faultMarkStopsTheBlock : Obligations.FaultMarkStopsTheBlock := by
  intro s f hf
  simp [step, hf]

/-! ### The byte a transaction returns -/

/-- No write returns a byte (30_encoding.md R80). -/
theorem exec_write_result {i : Instr} {s s' : State} (h : exec i s = .next s')
    (hi : (encode i).selector.getLsbD 16 = true) : s'.result = s.result := by
  rw [exec_frame h]
  exact withFieldsWritten_result_of_write s s' hi

/-- Every read returns a byte or, a MEM_RD alone, sets the mark (30_encoding.md R80; 44_memory_access.md R190). -/
theorem exec_read_result {i : Instr} {s s' : State} (h : exec i s = .next s')
    (hi : (encode i).selector.getLsbD 16 = false) (hf : s'.fault = none) : s'.result.isSome = true := by
  cases i with
  | memRd a =>
    have h : execMemRd a s = .next s' := h
    obtain ⟨-, e⟩ | ⟨-, e⟩ := execMemRd_cases a s <;> rw [e] at h <;> cases h
    · rfl
    · cases hf
  | inVdpData | inVdpStatus | inSndData | inMapctl | inPortA9 | inIdle =>
    cases h
    rfl
  | outVdpData | outVdpControl | outSndSelect | outSndWrite | outMapctl | outIgnored | memWr =>
    rw [encode, selectorOf_direction] at hi
    exact absurd hi (by decide)

/-- Settles O12: every instruction completes, a transaction's direction bit is that of the instruction it decodes to, and
only a MEM_RD sets the mark. -/
theorem everyTransactionCompletes : Obligations.EveryTransactionCompletes := by
  intro s t rest hf hb
  obtain ⟨s', h⟩ := exec_completes (decode t) (beginTransaction rest s)
  have hsel := encode_decode_selector t
  refine ⟨s', (step_transaction hf hb).trans h, exec_bus _ _ _ h, fun hf' => ?returned, fun hmark => ?marked⟩
  case returned =>
    cases hdir : t.selector.getLsbD 16 with
    | false => simp [exec_read_result h (hsel ▸ hdir) hf']
    | true =>
      have hnone : s'.result = none := exec_write_result h (hsel ▸ hdir)
      simp [hnone]
  case marked =>
    obtain ⟨f, hf'⟩ := Option.ne_none_iff_exists'.mp hmark
    obtain ⟨a, hd, -, -, rfl⟩ := exec_sets_fault h hf hf'
    rw [← hsel, hd, encode, selectorOf_space, selectorOf_direction]
    exact ⟨rfl, rfl, rfl⟩

/-! ### The invariant at reset -/

theorem resetWith_inv {p : Params} (hp : p.sound) : (State.resetWith p).Inv :=
  ⟨pageTableStaysCurrent.1 p, hp⟩

/-- Settles O44: reset takes its regions from the parameters, and the model's own parameters are sound. -/
theorem resetMeetsTheInvariant : Obligations.ResetMeetsTheInvariant :=
  ⟨fun _ => resetWith_inv, resetWith_inv (by decide)⟩

end Sys2Proof.Machine
